-- ==== Sys2Proof/Word.lean ====
section
/-! DEFINITION. The word types of the CR-412: the widths that the air frame (R199) and the link messages (R202) carry. -/

namespace Sys2Proof

/-- One byte of an air frame body or of a link message. -/
abbrev Byte := BitVec 8

/-- A two-byte field. -/
abbrev Word16 := BitVec 16

/-- A three-byte field: a second of day, an expected M_h. -/
abbrev Word24 := BitVec 24

/-- A four-byte field: a meter ID, a reading, a sequence number. -/
abbrev Word32 := BitVec 32

/-- A 4-bit symbol of the air frame (R1). -/
abbrev Nibble := BitVec 4

/-- A receive channel number, 0 to 3. -/
abbrev ChannelNo := Fin 4

end Sys2Proof
end

