-- ==== Sys2Proof/Syntax.lean ====
section
/-! DEFINITION. The commands of the CR-412: one constructor of `Instr` per row of spec/opcode_table.json, with the row's operands.
A command that a link carries has the tag of its message (R172) and the fields of its body at their widths on the wire (R202). -/

namespace Sys2Proof

/-- The two links that carry commands (R22). -/
inductive Link where
  | van | dock
deriving DecidableEq, Repr

/-- The result of the correcting code over one coded block (R3). -/
inductive Fec where
  | noError | oneCorrected | twoCorrected | threeCorrected | uncorrectable
deriving DecidableEq, Repr

/-- The steps of start-up in their order (R194): the marker test with the cold start, the discard of a load, the index rebuild, the
return of HEARD stops, the return of IN_FLIGHT records, the dwell timers, and the initial values with HELLO. -/
inductive StartStep where
  | marker | load | index | stops | records | dwell | hello
deriving DecidableEq, Repr

/-- Body of LOAD_BEGIN (R202). -/
structure LoadBeginBody where
  route : Word16
  shiftDay : Word16
  stops : Word16
  segments : Word16
deriving DecidableEq, Repr

/-- One 17-byte stop record of LOAD_STOPS (R208), its bit fields taken apart. -/
structure StopRecord where
  meterId : Word32
  segment : Byte
  digits : Nibble
  kindTag : Nibble
  previous : Word32
  previousPresent : Bool
  pollable : Bool
  profile : BitVec 3
  previousDay : Word16
  previousHour : Byte
  expected : Word24
deriving DecidableEq, Repr

/-- Body of LOAD_SEGMENT (R202). -/
structure LoadSegmentBody where
  segment : Byte
  dwellLimit : Word16
  dwellMode : Byte
deriving DecidableEq, Repr

/-- Body of SET_CHANNEL (R202). -/
structure SetChannelBody where
  channel : Byte
  enabled : Byte
  cdUsed : Byte
  cdPolarity : Byte
  tag : Byte
  degrade : Byte
  mute : Byte
  recover : Byte
deriving DecidableEq, Repr

/-- Body of SET_PROFILE (R202). -/
structure SetProfileBody where
  profile : Byte
  lowPct : Byte
  highPct : Word16
  extremePct : Word16
  zeroHours : Word16
  backTol : Byte
deriving DecidableEq, Repr

/-- Body of SET_DISPOSITION (R202). -/
structure SetDispositionBody where
  category : Byte
  recClass : Byte
  report : Byte
  recheck : Byte
deriving DecidableEq, Repr

/-- Body of SET_ROUTE_PARAMS (R202). -/
structure SetRouteParamsBody where
  confirmCount : Byte
  holdTime : Byte
  pollLimit : Byte
  listenWindow : Word16
  storeHigh : Word16
  foreignReporting : Byte
deriving DecidableEq, Repr

/-- Body of SET_DOCK (R202). -/
structure SetDockBody where
  detectUsed : Byte
  polarity : Byte
  threshold : Byte
deriving DecidableEq, Repr

/-- A depot's ABILITY page (R211). -/
structure AbilityPage where
  formats : Byte
  maxBlock : Byte
  family : Word16
  revision : Byte
deriving DecidableEq, Repr

/-- A depot's DEPOT page (R211). -/
structure DepotPage where
  wanted : Byte
  depotNumber : Word16
deriving DecidableEq, Repr

/-- A command of the command set (10_van_link_commands_and_notices.md), its body taken apart by R202. -/
inductive Command where
  | loadBegin (b : LoadBeginBody)
  | loadStops (first : Word16) (records : List StopRecord)
  | loadSegment (b : LoadSegmentBody)
  | loadEnd
  | loadAbort
  | retireRoute
  | clearRoute
  | setChannel (b : SetChannelBody)
  | setProfile (b : SetProfileBody)
  | setDisposition (b : SetDispositionBody)
  | setRouteParams (b : SetRouteParamsBody)
  | setDock (b : SetDockBody)
  | setNoticeMask (causes : Word16)
  | setAttnMode (mode : Byte)
  | openSegment (segment : Byte)
  | closeSegment (segment : Byte)
  | skipStop (stop : Word16)
  | unskipStop (stop : Word16)
  | pollStop (stop : Word16)
  | pollCancel (stop : Word16)
  | txEnable
  | txInhibit
  | setClock (day : Word16) (second : Word24)
  | clockSource (source : Byte)
  | readStop (form : Byte) (key : Word32)
  | readSegment (segment : Byte)
  | readRevisit (first : Word16) (count : Byte)
  | readRecords (start : Word32) (count : Byte)
  | readForeign (first : Byte) (count : Byte)
  | readStatus (target : Byte)
  | readCounters (target : Byte)
  | clearCounters (target : Byte)
  | ackNotice (causes : Word16)
  | dockReset
  | resetPart
deriving DecidableEq, Repr

/-- The steps of the CR-412, one constructor per row of spec/opcode_table.json. Three rows have an operand that stands at the plain event
of their name when it is left out: the four symbols of the sync pattern (R5), VBAK low (R190), the start-up as far as HELLO (R194). -/
inductive Instr where
  -- receive channels
  | syncDetection (ch : ChannelNo) (symbols : List Nibble := [0xC, 0x3, 0x9, 0x6])
  | headerComplete (ch : ChannelNo) (length complement : Byte)
  | blockComplete (ch : ChannelNo) (fec : Fec) (body : List Byte) (crc : Word16) (levels : List (BitVec 7))
  | carrierLoss (ch : ChannelNo)
  | carrierPresent (ch : ChannelNo)
  | streamStopped (ch : ChannelNo)
  | muteHoldExpiry (ch : ChannelNo)
  | setChannel (tag : Byte) (b : SetChannelBody)
  -- capture filter
  | captureFrame (ch : ChannelNo)
  | holdTimerExpiry (stop : Nat)
  | gatherLimitExpiry (stop : Nat)
  | readForeign (tag first count : Byte)
  -- check engine
  | checkStart
  | checkCompletion
  -- route book
  | loadBegin (link : Link) (tag : Byte) (b : LoadBeginBody)
  | loadStops (link : Link) (tag : Byte) (first : Word16) (records : List StopRecord)
  | loadSegment (link : Link) (tag : Byte) (b : LoadSegmentBody)
  | loadEnd (link : Link) (tag : Byte)
  | loadAbort (link : Link) (tag : Byte)
  | indexBuildComplete
  | retireRoute (tag : Byte)
  | clearRoute (tag : Byte)
  | readStop (tag form : Byte) (key : Word32)
  | setProfile (link : Link) (tag : Byte) (b : SetProfileBody)
  | setRouteParams (link : Link) (tag : Byte) (b : SetRouteParamsBody)
  | setDisposition (link : Link) (tag : Byte) (b : SetDispositionBody)
  -- route tracker
  | openSegment (tag segment : Byte)
  | closeSegment (tag segment : Byte)
  | dwellTimerExpiry (segment : Nat)
  | skipStop (tag : Byte) (stop : Word16)
  | unskipStop (tag : Byte) (stop : Word16)
  | readRevisit (tag : Byte) (first : Word16) (count : Byte)
  | readSegment (tag segment : Byte)
  -- record store
  | readRecords (tag : Byte) (start : Word32) (count : Byte)
  -- poll transmitter
  | pollTake
  | guardComplete
  | clearWaitExpiry
  | burstEnd
  | listenWindowExpiry
  | pollStop (tag : Byte) (stop : Word16)
  | pollCancel (tag : Byte) (stop : Word16)
  | txInhibit (tag : Byte)
  | txEnable (tag : Byte)
  -- dock link
  | dockSignalPresent
  | dockSignalAbsent
  | dockSignalLoss
  | aligned
  | symbolError
  | dockErrorWindowEnd
  | abilityPage (page : AbilityPage)
  | depotPage (page : DepotPage)
  | pageTimeout
  | dockSendDone
  | blockAck (number : Byte)
  | blockNak (number reason : Byte)
  | resendDelayExpiry
  | ackTimerExpiry
  | dockMessageArrival (bytes : List Byte)
  | dockMessageAbandoned
  | dockReset (tag : Byte)
  | setDock (tag : Byte) (b : SetDockBody)
  -- route clock
  | ppsPulse
  | pulseWatchExpiry
  | secondStep
  | setClock (tag : Byte) (day : Word16) (second : Word24)
  | clockSource (tag source : Byte)
  -- van link
  | vanMessageArrival (bytes : List Byte)
  | vanMessageDiscard (bytes : List Byte)
  | vanByteGapTimeout
  | byteWithoutStopBit
  | outboundSent
  | readStatus (tag target : Byte)
  | readCounters (tag target : Byte)
  | clearCounters (tag target : Byte)
  | ackNotice (tag : Byte) (causes : Word16)
  | setNoticeMask (tag : Byte) (causes : Word16)
  | setAttnMode (tag mode : Byte)
  | attnPulseEnd
  | attnLowGapEnd
  | resetPart (tag : Byte)
  -- supply and start-up
  | supplyDip
  | powerLost
  | vddGood
  | vddGoodLevelCrossing (rising : Bool)
  | vbakLow (low : Bool := true)
  | resetNAssert
  | resetNRelease
  | startUp (upTo : StartStep := .hello)
deriving DecidableEq, Repr

end Sys2Proof
end

