-- ==== Sys2Proof/Config.lean ====
section
/-! DEFINITION. What the spec fixes once for the part, and the values it leaves open (constants without a body). -/

namespace Sys2Proof.Config

/-- Family code of HELLO and the ABILITY page (R196). -/
abbrev familyCode : Nat := 0x0412

/-- Revision number of HELLO and the ABILITY page (R196). -/
abbrev revision : Nat := 1

/-- Capacity of the stop table (R24). -/
abbrev maxStops : Nat := 4096

/-- Largest segment count (R24). -/
abbrev maxSegments : Nat := 256

/-- Capacity of the heard table (R72). -/
abbrev heardCapacity : Nat := 192

/-- Capacity of the check queue (R83). -/
abbrev checkCapacity : Nat := 16

/-- Capacity of the foreign list (R68). -/
abbrev foreignCapacity : Nat := 64

/-- Capacity of the record store (R110). -/
abbrev storeCapacity : Nat := 8192

/-- The next sequence number at which no further record can be numbered (R113). -/
abbrev lastSequence : Nat := 4294967295

/-- Capacity of the poll queue (R126). -/
abbrev pollCapacity : Nat := 32

/-- Largest number of OPEN segments (R47). -/
abbrev openCapacity : Nat := 4

/-- Capacity of the inbound hold of the van link (R174) and of the held depot commands (R150). -/
abbrev holdCapacity : Nat := 4

/-- Capacity of the outbound queue (R180). -/
abbrev outboundCapacity : Nat := 64

/-- A report may join only while the outbound queue holds fewer messages than this (R180). -/
abbrev reportCapacity : Nat := 56

/-- Attempts in one quality window (R12). -/
abbrev windowAttempts : Nat := 64

/-- Without an edge of its symbol clock for this long, ms, a stream is stopped (R4). -/
abbrev streamStopMs : Nat := 2

/-- Longest gap between two bytes of a van link message, ms (R173). -/
abbrev byteGapMs : Nat := 2

/-- Mute hold, ms (R14). -/
abbrev muteHoldMs : Nat := 10000

/-- CH0 guard time, ms (R133). -/
abbrev guardMs : Nat := 5

/-- Clear wait limit, ms (R133). -/
abbrev clearWaitMs : Nat := 250

/-- Length of the poll burst, ms (R134). -/
abbrev burstMs : Nat := 48

/-- Largest poll-attempts count (R136). -/
abbrev maxAttempts : Nat := 7

/-- Dock signal loss, ms (R144). -/
abbrev signalLossMs : Nat := 10

/-- Page timer, ms (R147). -/
abbrev pageMs : Nat := 1000

/-- Acknowledgement timer, ms (R152). -/
abbrev ackMs : Nat := 2000

/-- Resend delay, ms (R155). -/
abbrev resendMs : Nat := 1000

/-- Largest block the part sends (R147). -/
abbrev maxBlock : Nat := 32

/-- Most format-2 records of one block (R207). -/
abbrev maxFullBlock : Nat := 20

/-- PPS watch, ms (R165). -/
abbrev ppsWatchMs : Nat := 2500

/-- Sub-seconds in a second (R164). -/
abbrev secondMs : Nat := 1000

/-- VDD good time, ms (R189). -/
abbrev vddGoodMs : Nat := 20

/-- DESIGN CHOICE (log 15): the value of a byte that the spec leaves open, a fresh one for each use; no body, so nothing can be
proved of it. -/
opaque freeByte : Nat → Byte

/-- DESIGN CHOICE (log 16): the 8 check symbols of the correcting code, whose construction the spec leaves out
(00_scope.md); no body, so nothing can be proved of them. -/
opaque checkSymbols : List Byte → Vector Nibble 8

end Sys2Proof.Config
end

