-- ==== Sys2Proof/Machine/State.lean ====
section
/-! DEFINITION. The state of the CR-412 as plain data, block by block (00_scope.md, Functional blocks), the reasons a step can stop,
and the state right after reset. -/

namespace Sys2Proof.Machine

/-! ## Reasons to stop -/

/-- Faults of the part. The spec gives none: the engine has no error path (R106), refused commands are answered (R176) and bad
messages are discarded (R173). No meaning raises one. -/
inductive Fault where
deriving DecidableEq, Repr

/-- Refusals of the model. -/
inductive Refusal where
  /-- Raised by an arm of `exec` whose command has no meaning yet. Safe: no next state is claimed. -/
  | notModelled (mnemonic : String)
deriving DecidableEq, Repr

/-! ## Durations -/

/-- A running duration of the millisecond time base (R170): the milliseconds counted and the length it was started with. -/
structure Timer where
  elapsed : Nat
  limit : Nat
deriving DecidableEq, Repr

/-! ## Supply monitor and retained memory -/

/-- Supply monitor states (R189). -/
inductive MonitorState where
  | off | dip | held | start | run
deriving DecidableEq, Repr

/-- What the last reset was (R193). -/
inductive ResetKind where
  | dip | command | pin
deriving DecidableEq, Repr

/-- The reset causes that HELLO reports (R193, R210). -/
inductive ResetCause where
  | powerOnCold | powerOnRetained | supplyDip | command | pin
deriving DecidableEq, Repr

/-- A start-up under way (R193, R194): its first step not yet done, the cause its marker test found, and what its steps have returned
so far. -/
structure StartProgress where
  next : StartStep
  cause : ResetCause
  stops : Nat
  records : Nat
deriving DecidableEq, Repr

/-- The supply monitor (R189 to R194). -/
structure Supply where
  monitor : MonitorState
  powerLost : Bool
  lastReset : ResetKind
  resetAsserted : Bool
  /-- VDD stands at or above the good level. -/
  vddGood : Bool
  goodCount : Option Timer
  /-- VBAK stands below 1.80 V (R190). -/
  vbakLow : Bool
  markerValid : Bool
  /-- The start-up under way; absent before its first step and outside START. -/
  starting : Option StartProgress
deriving DecidableEq, Repr

/-! ## Receive channels -/

/-- Channel states (R12 to R15). -/
inductive ChannelState where
  | off | active | degraded | muted
deriving DecidableEq, Repr

/-- A channel plan entry (R16). -/
structure PlanEntry where
  enabled : Bool
  cdUsed : Bool
  /-- CD polarity HIGH: carrier is present while CDn is high. -/
  cdHigh : Bool
  tag : Nat
  degrade : Nat
  mute : Nat
  recover : Nat
deriving DecidableEq, Repr

/-- How an attempt reads CDn: a frame in progress keeps the carrier indication it began with (R17). -/
structure CarrierRule where
  cdUsed : Bool
  cdHigh : Bool
deriving DecidableEq, Repr

/-- Decoder states (R5 to R9). HEADER and BODY hold the carrier rule the attempt began with, BODY also the body length L. -/
inductive Decoder where
  | off
  | hunt
  | header (carrier : CarrierRule)
  | body (carrier : CarrierRule) (length : Nat)
  | blanked
deriving DecidableEq, Repr

/-- The quality window (R12). -/
structure Window where
  attempts : Nat
  errors : Nat
deriving DecidableEq, Repr

/-- Decode outcomes (R6 to R8). -/
inductive DecodeOutcome where
  | clean | corrected | uncorrectable | checkFail | format | syncLoss
deriving DecidableEq, Repr

/-- The lifetime counters and sticky flags of one channel (R18). -/
structure ChannelCounters where
  clean : Word32
  corrected : Word32
  uncorrectable : Word32
  checkFail : Word32
  format : Word32
  syncLoss : Nat
  stateChanges : Byte
  wasDegraded : Bool
  wasMuted : Bool
deriving DecidableEq, Repr

/-- One receive channel. -/
structure Channel where
  cdPin : Bool
  /-- The stream-stop watch, from the last edge of the symbol clock; absent while the stream is stopped (R4). -/
  stream : Option Timer
  /-- The last symbols taken in HUNT, at most three (R5). -/
  recent : List Nibble
  decoder : Decoder
  state : ChannelState
  window : Window
  muteHold : Option Timer
  entry : PlanEntry
  pendingEntry : Option PlanEntry
  counters : ChannelCounters
deriving DecidableEq, Repr

/-! ## Frames and heard entries -/

/-- The status flags of an air frame (R2, R199). -/
structure Flags where
  magnet : Bool
  cover : Bool
  reverse : Bool
  leak : Bool
  battLow : Bool
deriving DecidableEq, Repr

/-- Kinds of decoded frames (R2). -/
inductive FrameKind where
  | reading | alarm | reply
deriving DecidableEq, Repr

/-- A decoded frame as a channel hands it on (R10). -/
structure Frame where
  channel : ChannelNo
  tag : Nat
  /-- The channel state when the frame was handed on was ACTIVE, not DEGRADED. -/
  fromActive : Bool
  corrections : Nat
  level : Nat
  kind : FrameKind
  meterId : Word32
  reading : Word32
  flags : Flags
  sequence : Byte
  /-- Present in a REPLY alone. -/
  token : Option Byte
deriving DecidableEq, Repr

/-- Route clock states (R163). -/
inductive ClockState where
  | unset | free | locked
deriving DecidableEq, Repr

/-- A timestamp (R169). -/
structure Stamp where
  day : Nat
  second : Nat
  state : ClockState
deriving DecidableEq, Repr

/-- Stop statuses (R42). -/
inductive Status where
  | unread | heard | read | flagged | recheck | missed | skipped
deriving DecidableEq, Repr

/-- What finalisation gives an entry (R81): its confirmation and its place in the finalisation order. -/
structure Final where
  confirmed : Bool
  order : Word32
deriving DecidableEq, Repr

/-- A heard entry (R74). It is GATHERING while `final` is absent, and FINAL_WAIT, queued or in check once it is present. -/
structure Entry where
  stop : Nat
  meterId : Word32
  created : Word32
  prior : Status
  best : Frame
  eligible : Nat
  copies : Nat
  mask : BitVec 4
  union : Flags
  alarm : Bool
  conflict : Bool
  polled : Bool
  followup : Bool
  firstHeard : Stamp
  lastHeard : Stamp
  hold : Timer
  gather : Timer
  final : Option Final
deriving DecidableEq, Repr

/-- An item of the foreign list (R68). -/
structure ForeignItem where
  meterId : Word32
  copies : Nat
  lastHeard : Stamp
  channel : ChannelNo
  level : Nat
deriving DecidableEq, Repr

/-- The capture counters (R87). -/
structure CaptureCounters where
  noRoute : Word32
  foreign : Word32
  skipped : Word32
  duplicate : Word32
  lateCopy : Word32
  overflow : Word32
  beyondLimit : Word32
  evictions : Word32
deriving DecidableEq, Repr

/-- The capture filter. `handedOn` holds the frames the channels have handed on and capture has not yet taken (R10). -/
structure Capture where
  handedOn : List Frame
  heard : List Entry
  queue : List Entry
  foreign : List ForeignItem
  nextCreation : Word32
  nextFinal : Word32
  counters : CaptureCounters
deriving DecidableEq, Repr

/-! ## Route book and tracker -/

/-- Route-table states (R21). -/
inductive RouteState where
  | empty | loading | activating | active | retired
deriving DecidableEq, Repr

/-- Record classes (R108). -/
inductive RecClass where
  | billing | review | tamper
deriving DecidableEq, Repr

/-- Report levels (R108). -/
inductive ReportLevel where
  | none | report | urgent
deriving DecidableEq, Repr

/-- The evidence set (R102), its members in the bit order of R198. -/
structure Evidence where
  magnet : Bool
  cover : Bool
  reverse : Bool
  leak : Bool
  battLow : Bool
  alarm : Bool
  conflict : Bool
  rollback : Bool
  backstep : Bool
  wrap : Bool
  range : Bool
  rateSat : Bool
  noExpect : Bool
  longGap : Bool
  noTime : Bool
  noBase : Bool
  unconfirmed : Bool
  polled : Bool
  late : Bool
  followup : Bool
deriving DecidableEq, Repr

/-- The static fields of a stop (R25). -/
structure StopStatic where
  meterId : Word32
  segment : Nat
  kindTag : Nat
  digits : Nat
  previous : Option Nat
  previousDay : Nat
  previousHour : Nat
  expected : Nat
  profile : Nat
  pollable : Bool
deriving DecidableEq, Repr

/-- A stop's latest record (R115). -/
structure Latest where
  sequence : Nat
  recClass : RecClass
  evidence : Evidence
deriving DecidableEq, Repr

/-- A stop of the stop table (R36). The static fields are present exactly when the written mark is set (R24, R26). -/
structure Stop where
  static : Option StopStatic
  status : Status
  prior : Option Status
  attempts : Nat
  recordCount : Nat
  latest : Option Latest
deriving DecidableEq, Repr

/-- Segment states (R46). -/
inductive SegmentState where
  | pending | opened | closed
deriving DecidableEq, Repr

/-- Dwell modes (R27). -/
inductive DwellMode where
  | close | warn
deriving DecidableEq, Repr

/-- The seven status counters of a segment (R52). -/
structure StatusCounts where
  unread : Nat
  heard : Nat
  recheck : Nat
  read : Nat
  flagged : Nat
  missed : Nat
  skipped : Nat
deriving DecidableEq, Repr

/-- A segment record (R46). The dwell limit is in seconds, the dwell elapsed in milliseconds. -/
structure Segment where
  state : SegmentState
  stopCount : Nat
  dwellLimit : Nat
  dwellMode : DwellMode
  dwellElapsed : Nat
  counts : StatusCounts
  late : Nat
  lapsed : Nat
deriving DecidableEq, Repr

/-- A band profile (R37). -/
structure Profile where
  lowPct : Nat
  highPct : Nat
  extremePct : Nat
  zeroHours : Nat
  backTol : Nat
deriving DecidableEq, Repr

/-- The route parameters (R38). -/
structure Params where
  confirmCount : Nat
  holdTime : Nat
  pollLimit : Nat
  listenWindow : Nat
  storeHigh : Nat
  foreignReporting : Bool
deriving DecidableEq, Repr

/-- An entry of the disposition table (R108). -/
structure Disposition where
  recClass : RecClass
  report : ReportLevel
  recheck : Bool
deriving DecidableEq, Repr

/-- The route book: header, stop table, segment table, meter index and settings (R21 to R41). The stop count and the segment
count of the header are the lengths of the two tables. -/
structure Route where
  state : RouteState
  number : Nat
  shiftDay : Nat
  owner : Option Link
  /-- The link the load in hand came from, kept for LOAD_DONE after the owner is released (R30). -/
  loadedBy : Option Link
  stops : List Stop
  segments : List Segment
  index : Option (List (Word32 × Nat))
  profiles : Vector Profile 8
  params : Params
  disposition : Vector Disposition 16
deriving DecidableEq, Repr

/-- The route tracker's lists (R46, R60). -/
structure Tracker where
  openOrder : List Nat
  revisit : List Nat
deriving DecidableEq, Repr

/-! ## Check engine and record store -/

/-- The check in flight with its snapshot (R92). -/
structure Check where
  entry : Entry
  static : StopStatic
  profile : Profile
  routeNumber : Nat
deriving DecidableEq, Repr

/-- Movements (R97). -/
inductive Movement where
  | none | forward | wrap | backstep | backward
deriving DecidableEq, Repr

/-- Outcome categories (R103). -/
inductive Category where
  | normal | unconfirmed | backstep | low | zero | high | extreme | leak
  | noTime | noBase | reverse | cover | magnet | conflict | rollback | range
deriving DecidableEq, Repr

/-- Upload states (R114). -/
inductive UploadState where
  | pending | inFlight | uploaded
deriving DecidableEq, Repr

/-- A stored record (R112). -/
structure Record where
  sequence : Nat
  route : Nat
  stop : Nat
  meterId : Word32
  segment : Nat
  kindTag : Nat
  reading : Word32
  firstHeard : Stamp
  movement : Movement
  amount : Nat
  hours : Option Nat
  rate : Option Nat
  ratio : Option Nat
  category : Category
  recClass : RecClass
  evidence : Evidence
  copies : Nat
  eligible : Nat
  mask : BitVec 4
  bestLevel : Nat
  bestCorrections : Nat
  bestTag : Nat
  supersedes : Option Nat
  upload : UploadState
deriving DecidableEq, Repr

/-- The record store (R111 to R125), records oldest first. -/
structure Store where
  records : List Record
  nextSequence : Nat
  appends : Word32
  reclaims : Word32
  drops : Word32
deriving DecidableEq, Repr

/-! ## Poll transmitter -/

/-- Origins of a poll (R126). -/
inductive Origin where
  | opened | recheck | host
deriving DecidableEq, Repr

/-- A poll queue entry (R126). -/
structure PollEntry where
  stop : Nat
  meterId : Word32
  origin : Origin
deriving DecidableEq, Repr

/-- The transmitter states (R132 to R135), each with what it holds: CLEARING the guard time counted and the clear wait, KEYED the
token and the burst, LISTEN the token and the listen window; KEYED and LISTEN also the cancelled mark (R131). -/
inductive TxState where
  | idle
  | clearing (poll : PollEntry) (guardElapsed : Nat) (wait : Timer)
  | keyed (poll : PollEntry) (token : Byte) (cancelled : Bool) (burst : Timer)
  | listen (poll : PollEntry) (token : Byte) (cancelled : Bool) (window : Timer)
deriving DecidableEq, Repr

/-- The transmitter counters (R140). -/
structure TxCounters where
  sent : Word32
  satisfied : Word32
  expired : Word32
  failed : Word32
  busy : Word32
deriving DecidableEq, Repr

/-- The poll transmitter. -/
structure Transmitter where
  state : TxState
  queue : List PollEntry
  lastToken : Byte
  inhibit : Bool
  counters : TxCounters
deriving DecidableEq, Repr

/-! ## Messages and links -/

/-- A link message (R172): the start byte, length and CRC are made from these parts. -/
structure Message where
  kind : Byte
  tag : Byte
  body : List Byte
deriving DecidableEq, Repr

/-- A held command (R174): its kind and tag, and its body taken apart, or nothing when the body does not fit the form (R173). -/
structure Held where
  kind : Byte
  tag : Byte
  command : Option Command
deriving DecidableEq, Repr

/-- Dock link states (R144). -/
inductive LinkState where
  | down | align | exchange | ready | uploading | fault
deriving DecidableEq, Repr

/-- Causes of a dock link change (R160), in the order of that table. -/
inductive DockCause where
  | signalUp | aligned | exchanged | signal | errors | pageTimeout | noFormat | noBlock | retries | ackTimeout | dockReset
  | suspended
deriving DecidableEq, Repr

/-- NAK reasons (R155). -/
inductive NakReason where
  | format | storage
deriving DecidableEq, Repr

/-- The dock settings (R143). -/
structure DockSettings where
  detectUsed : Bool
  /-- Polarity HIGH: the signal is present while DSD is high. -/
  polarityHigh : Bool
  threshold : Nat
deriving DecidableEq, Repr

/-- Where the page exchange stands (R147, R148). `abilityEarly` and `depotEarly` hold a depot page taken before the last byte of
the part's own page has been sent. -/
inductive Exchange where
  | abilitySending (abilityEarly : Option AbilityPage)
  | abilityWait (timer : Timer)
  | routeSending (depotEarly : Option DepotPage)
  | routeWait (timer : Timer)
deriving DecidableEq, Repr

/-- The outstanding block (R152). -/
structure Block where
  first : Nat
  count : Nat
  sends : Nat
  timer : Option Timer
deriving DecidableEq, Repr

/-- What a dock message is, for the end of its sending (R150 to R153): `stale` when its end starts no timer. -/
inductive DockRole where
  | abilityPage | routePage | reply | block | uploadEnd | stale
deriving DecidableEq, Repr

/-- A message on its way out of the dock link. -/
structure DockOut where
  role : DockRole
  message : Message
deriving DecidableEq, Repr

/-- The dock link counters (R161). -/
structure DockCounters where
  linkDown : Byte
  wasDown : Bool
  symbolErrors : Nat
  exchangeFailures : Word32
  blocksSent : Word32
  resends : Word32
  acks : Word32
  naks : Word32
  stray : Word32
  discarded : Word32
deriving DecidableEq, Repr

/-- The dock link controller. -/
structure Dock where
  settings : DockSettings
  dsdPin : Bool
  link : LinkState
  faultCause : Option DockCause
  watch : Option Timer
  windowErrors : Nat
  rx : List Byte
  exchange : Option Exchange
  format : Option Nat
  blockSize : Option Nat
  wanted : Option Bool
  depotNumber : Option Nat
  identity : Option (Nat × Nat)
  lastNak : Option NakReason
  suspended : Bool
  failures : Nat
  nakCount : Nat
  blockNumber : Byte
  outstanding : Option Block
  resend : Option Timer
  runAcked : Nat
  held : List Held
  reply : Option Message
  waiting : List DockOut
  sending : Option DockOut
  counters : DockCounters
deriving DecidableEq, Repr

/-! ## Route clock -/

/-- Clock sources (R163). -/
inductive ClockSource where
  | internal | pps
deriving DecidableEq, Repr

/-- The route clock (R163). `stepDue`: 1000 ms have been counted and the second step has not yet been taken (R164); the sub-second then
still reads 999. -/
structure Clock where
  state : ClockState
  day : Nat
  second : Nat
  sub : Nat
  stepDue : Bool
  source : ClockSource
  watchPresent : Bool
  sincePulse : Option Nat
deriving DecidableEq, Repr

/-! ## Van link and notices -/

/-- Notice causes (R181's table), in code order. -/
inductive Cause where
  | urgentRecord | reportsLost | segmentComplete | segmentClosed | segmentDwell | pollFailed | channelState | storeHigh
  | storeFull | dockState | uploadDone | clockState | loadDone
deriving DecidableEq, Repr

/-- The notice state of one cause (R182). The first detail is kept as the bytes that NOTICE carries (R210). -/
structure Notice where
  pending : Bool
  announced : Bool
  count : Nat
  detail : Option (List Byte)
  masked : Bool
deriving DecidableEq, Repr

/-- ATTN modes (R187). -/
inductive AttnMode where
  | level | pulse
deriving DecidableEq, Repr

/-- Where ATTN stands in PULSE mode: at rest, in a pulse, or in the low time after one (R187). -/
inductive AttnPhase where
  | rest | high | gap
deriving DecidableEq, Repr

/-- The van link counters (R186). -/
structure VanCounters where
  badLength : Word32
  incomplete : Word32
  badCrc : Word32
  unknownKind : Word32
  holdFull : Word32
  taken : Word32
  reportsLost : Nat
deriving DecidableEq, Repr

/-- The receiver of the van link (R173): hunting for a start byte, or within a message partly received, with its first byte, those behind
it and the time since the last. -/
inductive Reception where
  | hunting
  | within (first : Byte) (behind : List Byte) (gap : Timer)
deriving DecidableEq, Repr

/-- The bytes of a message partly received; none while hunting. -/
def Reception.bytes : Reception → List Byte
  | .hunting => []
  | .within first behind _ => first :: behind

/-- The time since the last byte of a message partly received, at most the length of the gap; 0 while hunting. -/
def Reception.gap : Reception → Timer
  | .hunting => ⟨0, Config.byteGapMs⟩
  | .within _ _ gap => gap

/-- The van link controller. `resetReply` is the number of messages ahead of the reply to a waiting RESET_PART (R178). -/
structure Van where
  rx : Reception
  hold : List Held
  outbound : List Message
  resetReply : Option Nat
  notices : Vector Notice 13
  attnMode : AttnMode
  attnPhase : AttnPhase
  attnOwed : Nat
  counters : VanCounters
deriving DecidableEq, Repr

/-! ## The state -/

/-- The whole state of the part. `pending` is the queue of commands waiting (log 1) and `freeUses` the number of free values drawn
(log 15): the model's own fields; every other field is the spec's. -/
structure State where
  pending : List Instr
  supply : Supply
  channels : Vector Channel 4
  capture : Capture
  route : Route
  tracker : Tracker
  check : Option Check
  store : Store
  tx : Transmitter
  dock : Dock
  clock : Clock
  van : Van
  freeUses : Nat
deriving DecidableEq, Repr

/-! ## Initial values -/

/-- The cold-start channel plan entry of channel `n` (R16). -/
def PlanEntry.default (n : Nat) : PlanEntry :=
  { enabled := true, cdUsed := false, cdHigh := true, tag := n, degrade := 8, mute := 24, recover := 2 }

/-- All channel counters 0 and flags clear (R20). -/
def ChannelCounters.zero : ChannelCounters :=
  { clean := 0, corrected := 0, uncorrectable := 0, checkFail := 0, format := 0, syncLoss := 0, stateChanges := 0,
    wasDegraded := false, wasMuted := false }

/-- A channel when HELLO is sent (R20), from the plan entry and the pin that the reset leaves alone. -/
def Channel.initial (entry : PlanEntry) (cdPin : Bool) : Channel :=
  { cdPin := cdPin, stream := none, recent := [],
    decoder := if entry.enabled then .hunt else .off,
    state := if entry.enabled then .active else .off,
    window := ⟨0, 0⟩, muteHold := none, entry := entry, pendingEntry := none, counters := .zero }

/-- All capture counters 0 (R89). -/
def CaptureCounters.zero : CaptureCounters := ⟨0, 0, 0, 0, 0, 0, 0, 0⟩

/-- The capture filter when HELLO is sent (R89). -/
def Capture.initial : Capture :=
  { handedOn := [], heard := [], queue := [], foreign := [], nextCreation := 0, nextFinal := 0, counters := .zero }

/-- The cold-start band profile (R37). -/
def Profile.default : Profile :=
  { lowPct := 40, highPct := 180, extremePct := 1000, zeroHours := 72, backTol := 5 }

/-- The cold-start route parameters (R38). -/
def Params.default : Params :=
  { confirmCount := 2, holdTime := 8, pollLimit := 3, listenWindow := 400, storeHigh := 7168, foreignReporting := false }

/-- The cold-start disposition table (R108). -/
def Disposition.defaults : Vector Disposition 16 :=
  #v[⟨.billing, .none, false⟩, ⟨.billing, .report, true⟩, ⟨.billing, .none, false⟩, ⟨.review, .report, false⟩,
     ⟨.review, .report, true⟩, ⟨.review, .report, false⟩, ⟨.review, .urgent, true⟩, ⟨.review, .report, false⟩,
     ⟨.billing, .report, false⟩, ⟨.billing, .report, false⟩, ⟨.tamper, .urgent, false⟩, ⟨.tamper, .urgent, false⟩,
     ⟨.tamper, .urgent, false⟩, ⟨.tamper, .urgent, true⟩, ⟨.tamper, .urgent, true⟩, ⟨.review, .urgent, true⟩]

/-- The route book of a cold start (R41, R195). -/
def Route.cold : Route :=
  { state := .empty, number := 0, shiftDay := 0, owner := none, loadedBy := none, stops := [], segments := [], index := none,
    profiles := Vector.replicate 8 .default, params := .default, disposition := Disposition.defaults }

/-- The tracker of an EMPTY route (R63). -/
def Tracker.empty : Tracker := { openOrder := [], revisit := [] }

/-- The record store of a cold start (R125, R195). -/
def Store.cold : Store := { records := [], nextSequence := 1, appends := 0, reclaims := 0, drops := 0 }

/-- All transmitter counters 0 (R142). -/
def TxCounters.zero : TxCounters := ⟨0, 0, 0, 0, 0⟩

/-- The transmitter when HELLO is sent, before its refill scan (R142). -/
def Transmitter.initial : Transmitter :=
  { state := .idle, queue := [], lastToken := 0, inhibit := false, counters := .zero }

/-- All dock link counters 0 and LINK_WAS_DOWN clear (R162). -/
def DockCounters.zero : DockCounters := ⟨0, false, 0, 0, 0, 0, 0, 0, 0, 0⟩

/-- The cold-start dock settings (R143). -/
def DockSettings.default : DockSettings := { detectUsed := true, polarityHigh := true, threshold := 16 }

/-- The dock link controller when HELLO is sent (R162), from the settings and the pin that the reset leaves alone. -/
def Dock.initial (settings : DockSettings) (dsdPin : Bool) : Dock :=
  { settings := settings, dsdPin := dsdPin, link := .down, faultCause := none, watch := none, windowErrors := 0, rx := [],
    exchange := none, format := none, blockSize := none, wanted := none, depotNumber := none, identity := none,
    lastNak := none, suspended := false, failures := 0, nakCount := 0, blockNumber := 0, outstanding := none, resend := none,
    runAcked := 0, held := [], reply := none, waiting := [], sending := none, counters := .zero }

/-- The route clock at the beginning of start-up (R171). -/
def Clock.initial : Clock :=
  { state := .unset, day := 0, second := 0, sub := 0, stepDue := false, source := .internal, watchPresent := false, sincePulse := none }

/-- A cause that is not pending, with its retained mask bit (R188). -/
def Notice.clear (masked : Bool) : Notice :=
  { pending := false, announced := false, count := 0, detail := none, masked := masked }

/-- All van link counters 0 (R188). -/
def VanCounters.zero : VanCounters := ⟨0, 0, 0, 0, 0, 0, 0⟩

/-- The van link controller after a reset, before HELLO is queued (R188), from the retained mask and ATTN mode. -/
def Van.initial (masks : Vector Bool 13) (mode : AttnMode) : Van :=
  { rx := .hunting, hold := [], outbound := [], resetReply := none, notices := Vector.ofFn fun k => .clear masks[k], attnMode := mode,
    attnPhase := .rest, attnOwed := 0, counters := .zero }

/-- The HELLO of a cold start (R196, R210): family code 0x0412, revision 1, POWER_ON_COLD, EMPTY, route number 0, no OPEN segments,
nothing returned, no records, fill 0, next sequence number 1, clock UNSET. -/
def coldHello : Message :=
  { kind := 0x81, tag := 0,
    body := [0x04, 0x12, 1, 0, 0, 0, 0, 0, 0, 0, 0, 0, 0, 0, 0, 0, 0, 0, 1, 0] }

/-- The machine right after reset: a cold start has just sent HELLO (R194 to R196). The levels of the input pins are a
DESIGN CHOICE (log 5). -/
def State.reset : State :=
  { pending := [],
    supply := { monitor := .run, powerLost := false, lastReset := .dip, resetAsserted := false, vddGood := true,
                goodCount := none, vbakLow := false, markerValid := true, starting := none },
    channels := #v[.initial (.default 0) false, .initial (.default 1) false, .initial (.default 2) false,
                   .initial (.default 3) false],
    capture := .initial, route := .cold, tracker := .empty, check := none, store := .cold, tx := .initial,
    dock := .initial .default false, clock := .initial,
    van := { Van.initial (Vector.replicate 13 false) .level with outbound := [coldHello] },
    freeUses := 0 }

end Sys2Proof.Machine
end

