-- ==== Sys2Proof/Machine/Wire.lean ====
section
/-! DEFINITION. Encoding on the links and on the air (R198): byte order, codes of enumerated values, the CRC and the message frame
(R172), and the poll burst (R200). -/

namespace Sys2Proof.Machine

/-! ## Byte order: high byte first (R198) -/

/-- A 1-byte field. -/
def u8 (n : Nat) : List Byte := [BitVec.ofNat 8 n]

/-- A 2-byte field. -/
def u16 (n : Nat) : List Byte := [BitVec.ofNat 8 (n / 256), BitVec.ofNat 8 n]

/-- A 3-byte field. -/
def u24 (n : Nat) : List Byte := BitVec.ofNat 8 (n / 65536) :: u16 n

/-- A 4-byte field. -/
def u32 (n : Nat) : List Byte := u16 (n / 65536) ++ u16 n

/-- The number that a run of bytes holds, high byte first. -/
def ofBytes (bytes : List Byte) : Nat := bytes.foldl (fun n b => n * 256 + b.toNat) 0

/-- A yes or no, a set or clear mark: 1 byte (R198). -/
def flagByte (b : Bool) : List Byte := u8 b.toNat

/-- An optional item: a presence byte, then the item's bytes, sent as 0 when it is absent (R203). `width` is the item's width. -/
def optional (width : Nat) : Option (List Byte) → List Byte
  | some bytes => 1 :: bytes
  | none => 0 :: List.replicate width 0

/-- A list that cannot hold more than 255 items: its item count in 1 byte, then the items (R203). -/
def listOf (items : List (List Byte)) : List Byte := u8 items.length ++ items.flatten

/-! ## Codes of enumerated values (R198) -/

/-- Code of a clock state. -/
def ClockState.code : ClockState → Nat
  | .unset => 0 | .free => 1 | .locked => 2

/-- Code of a movement. -/
def Movement.code : Movement → Nat
  | .none => 0 | .forward => 1 | .wrap => 2 | .backstep => 3 | .backward => 4

/-- Code of a class. -/
def RecClass.code : RecClass → Nat
  | .billing => 0 | .review => 1 | .tamper => 2

/-- Code of an upload state. -/
def UploadState.code : UploadState → Nat
  | .pending => 0 | .inFlight => 1 | .uploaded => 2

/-- Code of a stop status. -/
def Status.code : Status → Nat
  | .unread => 0 | .heard => 1 | .read => 2 | .flagged => 3 | .recheck => 4 | .missed => 5 | .skipped => 6

/-- Code of a route-table state. -/
def RouteState.code : RouteState → Nat
  | .empty => 0 | .loading => 1 | .activating => 2 | .active => 3 | .retired => 4

/-- Code of a channel state. -/
def ChannelState.code : ChannelState → Nat
  | .off => 0 | .active => 1 | .degraded => 2 | .muted => 3

/-- Code of a dock link state. -/
def LinkState.code : LinkState → Nat
  | .down => 0 | .align => 1 | .exchange => 2 | .ready => 3 | .uploading => 4 | .fault => 5

/-- Code of a report level. -/
def ReportLevel.code : ReportLevel → Nat
  | .none => 0 | .report => 1 | .urgent => 2

/-- Code of a poll origin. -/
def Origin.code : Origin → Nat
  | .opened => 0 | .recheck => 1 | .host => 2

/-- Code of a load owner, "none" included. -/
def ownerCode : Option Link → Nat
  | some .van => 0 | some .dock => 1 | none => 2

/-- Code of a segment state. -/
def SegmentState.code : SegmentState → Nat
  | .pending => 0 | .opened => 1 | .closed => 2

/-- Code of a decoder state. -/
def Decoder.code : Decoder → Nat
  | .off => 0 | .hunt => 1 | .header _ => 2 | .body _ _ => 3 | .blanked => 4

/-- Code of a transmitter state. -/
def TxState.code : TxState → Nat
  | .idle => 0 | .clearing .. => 1 | .keyed .. => 2 | .listen .. => 3

/-- Code of a clock source. -/
def ClockSource.code : ClockSource → Nat
  | .internal => 0 | .pps => 1

/-- Code of an ATTN mode. -/
def AttnMode.code : AttnMode → Nat
  | .level => 0 | .pulse => 1

/-- Code of a dwell mode. -/
def DwellMode.code : DwellMode → Nat
  | .close => 0 | .warn => 1

/-- Code of a polarity: HIGH 0, LOW 1. -/
def polarityCode (high : Bool) : Nat := if high then 0 else 1

/-- Code of a dock link cause, in the order of R160's table. -/
def DockCause.code : DockCause → Nat
  | .signalUp => 0 | .aligned => 1 | .exchanged => 2 | .signal => 3 | .errors => 4 | .pageTimeout => 5 | .noFormat => 6
  | .noBlock => 7 | .retries => 8 | .ackTimeout => 9 | .dockReset => 10 | .suspended => 11

/-- Code of a NAK reason. -/
def NakReason.code : NakReason → Nat
  | .format => 1 | .storage => 2

/-- Code of a category, its index in the disposition table (R103). -/
def Category.code : Category → Fin 16
  | .normal => 0 | .unconfirmed => 1 | .backstep => 2 | .low => 3 | .zero => 4 | .high => 5 | .extreme => 6 | .leak => 7
  | .noTime => 8 | .noBase => 9 | .reverse => 10 | .cover => 11 | .magnet => 12 | .conflict => 13 | .rollback => 14
  | .range => 15

/-- Code of a notice cause. -/
def Cause.code : Cause → Fin 13
  | .urgentRecord => 0 | .reportsLost => 1 | .segmentComplete => 2 | .segmentClosed => 3 | .segmentDwell => 4 | .pollFailed => 5
  | .channelState => 6 | .storeHigh => 7 | .storeFull => 8 | .dockState => 9 | .uploadDone => 10 | .clockState => 11
  | .loadDone => 12

/-- The 13 causes in code order. -/
def Cause.all : List Cause :=
  [.urgentRecord, .reportsLost, .segmentComplete, .segmentClosed, .segmentDwell, .pollFailed, .channelState, .storeHigh,
   .storeFull, .dockState, .uploadDone, .clockState, .loadDone]

/-- Bytes of the first detail of each cause (R210). -/
def Cause.detailWidth : Cause → Nat
  | .urgentRecord => 7 | .reportsLost => 3 | .segmentComplete => 1 | .segmentClosed => 6 | .segmentDwell => 2 | .pollFailed => 10
  | .channelState => 3 | .storeHigh => 4 | .storeFull => 6 | .dockState => 3 | .uploadDone => 10 | .clockState => 8
  | .loadDone => 5

/-- Code of a reset cause in HELLO (R210). -/
def ResetCause.code : ResetCause → Nat
  | .powerOnCold => 0 | .powerOnRetained => 1 | .supplyDip => 2 | .command => 3 | .pin => 4

/-- Code of a frame kind on the air (R199). -/
def FrameKind.code : FrameKind → Nat
  | .reading => 1 | .alarm => 2 | .reply => 3

/-- A set of causes: bit `n` of 2 bytes stands for cause code `n` (R198). -/
def causeSet (causes : List Cause) : List Byte := u16 (causes.foldl (fun n c => n + 2 ^ c.code.val) 0)

/-- Whether a received set of causes names a cause, by its bit (R198). The spec does not say what a set bit 13, 14 or 15, for which there
is no cause, does; the model does not read them (DESIGN CHOICE, log 38). -/
def namesCause (set : Word16) (c : Cause) : Bool := set.getLsbD c.code.val

/-- A time field: bits 23 and 22 the clock state, bits 16 to 0 the second of day (R198). -/
def timeField (second : Nat) (state : ClockState) : List Byte := u24 (state.code * 2 ^ 22 + second)

/-- A day and its time field (R203). -/
def stampBytes (t : Stamp) : List Byte := u16 t.day ++ timeField t.second t.state

/-! ## CRC and frame (R1, R172) -/

/-- One bit of the CRC with generator 0x1021, most significant bit first. -/
def crcBit (crc : Word16) : Word16 := if crc.msb then (crc <<< 1) ^^^ 0x1021 else crc <<< 1

/-- One byte of the CRC. -/
def crcByte (crc : Word16) (b : Byte) : Word16 :=
  Nat.repeat crcBit 8 (crc ^^^ (b.setWidth 16 <<< 8))

/-- The CRC of a run of bytes from an initial value, without a final inversion. -/
def crc16 (initial : Word16) (bytes : List Byte) : Word16 := bytes.foldl crcByte initial

/-- The CRC of an air frame body: initial value 0x0000 (R1). -/
def airCrc (body : List Byte) : Word16 := crc16 0x0000 body

/-- The CRC of a link message: initial value 0xFFFF, over length, kind, tag and body (R172). -/
def linkCrc (bytes : List Byte) : Word16 := crc16 0xFFFF bytes

/-- The start byte of a message (R172). -/
def startByte : Byte := 0xC5

/-- Length, kind, tag and body of a message: what its CRC covers (R172). -/
def Message.covered (m : Message) : List Byte := u16 (m.body.length + 2) ++ m.kind :: m.tag :: m.body

/-- The bytes of a message on a link (R172). -/
def Message.frame (m : Message) : List Byte := startByte :: (m.covered ++ u16 (linkCrc m.covered).toNat)

/-- What the receiver finds in a run of bytes (R173, tests 1 and 3): a message whose length and CRC hold, or a defect. -/
inductive Received where
  | message (m : Message)
  | badLength
  | badCrc
deriving DecidableEq, Repr

/-- The receiver over a run of bytes (R173): outside a message it hunts for the start byte; after a bad length or a bad CRC
hunting resumes at the byte after the discarded start byte, after a whole message at the byte after its last CRC byte. Answers
what was found, in order, and the bytes of a message not yet complete. `fuel` is at least the number of bytes plus one. -/
def receive (fuel : Nat) (bytes : List Byte) : List Received × List Byte :=
  match fuel, bytes with
  | 0, _ => ([], [])
  | _ + 1, [] => ([], [])
  | fuel + 1, b :: rest =>
    if b ≠ startByte then receive fuel rest else
    match rest with
    | hi :: lo :: tail =>
      let length := ofBytes [hi, lo]
      if length < 2 ∨ 1026 < length then
        let (found, left) := receive fuel rest
        (.badLength :: found, left)
      else if tail.length < length + 2 then ([], b :: rest)
      else
        let content := tail.take length
        let crc := (tail.drop length).take 2
        if ofBytes crc ≠ (linkCrc (hi :: lo :: content)).toNat then
          let (found, left) := receive fuel rest
          (.badCrc :: found, left)
        else
          match content with
          | kind :: tag :: body =>
            let (found, left) := receive fuel (tail.drop (length + 2))
            (.message ⟨kind, tag, body⟩ :: found, left)
          | _ => ([], [])
    | _ => ([], b :: rest)

/-- What VTX carries in one bit time of a byte (R172): the levels of start and stop bit are electrical. -/
inductive LineBit where
  | start
  | data (b : Bool)
  | stop
deriving DecidableEq, Repr

/-- A byte on the van link: a start bit, 8 data bits with the least significant bit first, no parity, a stop bit (R172). -/
def lineBits (b : Byte) : List LineBit := .start :: ((List.range 8).map fun k => .data (b.getLsbD k)) ++ [.stop]

/-! ## The poll burst (R200) -/

/-- Symbols of a run of bytes, high nibble first (R1). -/
def symbols (bytes : List Byte) : List Nibble :=
  bytes.flatMap fun b => [b.extractLsb' 4 4, b.extractLsb' 0 4]

/-- A symbol as its four bits, high bit first (R200). -/
def symbolBits (x : Nibble) : List Bool := [x.getLsbD 3, x.getLsbD 2, x.getLsbD 1, x.getLsbD 0]

/-- `n` alternating symbols 0x5 and 0xA, starting with 0x5 (R1, R200). R200 states that start for the wake-up preamble; for the frame's
own 16 symbols the spec states none, and the model lets them start with 0x5 as well (DESIGN CHOICE, log 41). -/
def preamble (n : Nat) : List Nibble := (List.replicate (n / 2) [(0x5 : Nibble), 0xA]).flatten

/-- The body of the poll frame: kind 4, the meter ID, and the token in byte 11 (R200). -/
def pollBody (meterId : Word32) (token : Byte) : List Byte :=
  4 :: u32 meterId.toNat ++ [0, 0, 0, 0, 0, 0, token, 0, 0]

/-- The symbols of the burst: the wake-up preamble of 128 symbols and the poll frame of 64 (R200). -/
def pollBurst (meterId : Word32) (token : Byte) : List Nibble :=
  let body := pollBody meterId token
  preamble 128 ++ preamble 16 ++ [0xC, 0x3, 0x9, 0x6] ++ symbols [14, ~~~14] ++ symbols body
    ++ symbols (u16 (airCrc body).toNat) ++ (Config.checkSymbols body).toList

end Sys2Proof.Machine
end

