-- ==== Sys2Proof/Machine/Flags.lean ====
section
/-! DEFINITION. Status flags and evidence sets: their bytes, their unions and the tamper flags (R2, R70, R102, R198). -/

namespace Sys2Proof.Machine

/-- The status flags of byte 9 of an air frame body; bits 5 to 7 are ignored (R2, R199). -/
def Flags.ofByte (b : Byte) : Flags :=
  { magnet := b.getLsbD 0, cover := b.getLsbD 1, reverse := b.getLsbD 2, leak := b.getLsbD 3, battLow := b.getLsbD 4 }

/-- The number whose bit `i` is the `i`-th Boolean. -/
def bitSum : List Bool → Nat
  | [] => 0
  | b :: rest => b.toNat + 2 * bitSum rest

/-- The flag byte of reports and summaries (R210). -/
def Flags.bytes (f : Flags) : List Byte := u8 (bitSum [f.magnet, f.cover, f.reverse, f.leak, f.battLow])

/-- The union of two sets of flags (R78). -/
def Flags.union (a b : Flags) : Flags :=
  { magnet := a.magnet || b.magnet, cover := a.cover || b.cover, reverse := a.reverse || b.reverse, leak := a.leak || b.leak,
    battLow := a.battLow || b.battLow }

/-- The tamper flags MAGNET, COVER and REVERSE of a frame that are absent from an evidence set (R70, R71). -/
def Flags.newTamper (f : Flags) (e : Evidence) : Flags :=
  { magnet := f.magnet && !e.magnet, cover := f.cover && !e.cover, reverse := f.reverse && !e.reverse, leak := false,
    battLow := false }

/-- Whether a set of flags holds a tamper flag (R70). -/
def Flags.anyTamper (f : Flags) : Bool := f.magnet || f.cover || f.reverse

/-- The empty evidence set. -/
def Evidence.empty : Evidence :=
  ⟨false, false, false, false, false, false, false, false, false, false, false, false, false, false, false, false, false, false,
   false, false⟩

/-- The members of an evidence set as bits 0 to 19 (R198). -/
def Evidence.bits (e : Evidence) : List Bool :=
  [e.magnet, e.cover, e.reverse, e.leak, e.battLow, e.alarm, e.conflict, e.rollback, e.backstep, e.wrap, e.range, e.rateSat,
   e.noExpect, e.longGap, e.noTime, e.noBase, e.unconfirmed, e.polled, e.late, e.followup]

/-- The 3 bytes of an evidence set (R198). -/
def Evidence.bytes (e : Evidence) : List Byte := u24 (bitSum e.bits)

/-- The members that the entry gives (R102): the flag union, the marks, UNCONFIRMED and LATE. The members of the stages are absent. -/
def Entry.evidence (e : Entry) : Evidence :=
  { Evidence.empty with
    magnet := e.union.magnet, cover := e.union.cover, reverse := e.union.reverse, leak := e.union.leak,
    battLow := e.union.battLow, alarm := e.alarm, conflict := e.conflict,
    unconfirmed := e.final.any (fun f => !f.confirmed), polled := e.polled, late := e.prior == .missed,
    followup := e.followup }

end Sys2Proof.Machine
end

