-- ==== Sys2Proof/Machine/Operands.lean ====
section
/-! DEFINITION. The operand forms of the commands: the bodies of R202 and R208 taken apart, the coded fields of R198, and the pages
and acknowledgements of the dock link (R206, R211). A body that does not fit its form gives nothing: BAD_FORM (R198). -/

namespace Sys2Proof.Machine

/-- A 2-byte field of a body. -/
def word16 (a b : Byte) : Word16 := a ++ b

/-- A 3-byte field of a body. -/
def word24 (a b c : Byte) : Word24 := a ++ b ++ c

/-- A 4-byte field of a body. -/
def word32 (a b c d : Byte) : Word32 := a ++ b ++ c ++ d

/-- A yes or no, set or clear, on or off field: no other code (R198). -/
def boolCode (b : Byte) : Option Bool := if b = 0 then some false else if b = 1 then some true else none

/-- A polarity field: HIGH 0, LOW 1 (R198). -/
def polarityOf (b : Byte) : Option Bool := if b = 0 then some true else if b = 1 then some false else none

/-- A class field (R198). -/
def classOf (b : Byte) : Option RecClass :=
  if b = 0 then some .billing else if b = 1 then some .review else if b = 2 then some .tamper else none

/-- A report level field (R198). -/
def reportOf (b : Byte) : Option ReportLevel :=
  if b = 0 then some .none else if b = 1 then some .report else if b = 2 then some .urgent else none

/-- A dwell mode field (R198). -/
def dwellModeOf (b : Byte) : Option DwellMode := if b = 0 then some .close else if b = 1 then some .warn else none

/-- A clock source field (R198). -/
def sourceOf (b : Byte) : Option ClockSource := if b = 0 then some .internal else if b = 1 then some .pps else none

/-- An ATTN mode field (R198). -/
def attnModeOf (b : Byte) : Option AttnMode := if b = 0 then some .level else if b = 1 then some .pulse else none

/-- A NAK reason field (R198). -/
def nakReasonOf (b : Byte) : Option NakReason := if b = 1 then some .format else if b = 2 then some .storage else none

/-- Targets of READ_STATUS, READ_COUNTERS and CLEAR_COUNTERS (R177, R198). -/
inductive Target where
  | route | channel (n : ChannelNo) | settings | store | transmitter | dock | clock | notices | capture | van
deriving DecidableEq, Repr

/-- A target field (R198). -/
def targetOf (b : Byte) : Option Target :=
  match b.toNat with
  | 0 => some .route | 1 => some (.channel 0) | 2 => some (.channel 1) | 3 => some (.channel 2) | 4 => some (.channel 3)
  | 5 => some .settings | 6 => some .store | 7 => some .transmitter | 8 => some .dock | 9 => some .clock | 10 => some .notices
  | 11 => some .capture | 12 => some .van | _ => none

/-- A 17-byte stop record (R208). -/
def stopRecordOf : List Byte → Option StopRecord
  | [m0, m1, m2, m3, seg, b5, p0, p1, p2, p3, b10, d0, d1, hour, e0, e1, e2] =>
    some { meterId := word32 m0 m1 m2 m3, segment := seg, digits := b5.extractLsb' 4 4, kindTag := b5.extractLsb' 0 4,
           previous := word32 p0 p1 p2 p3, previousPresent := b10.getLsbD 7, pollable := b10.getLsbD 6,
           profile := b10.extractLsb' 0 3, previousDay := word16 d0 d1, previousHour := hour, expected := word24 e0 e1 e2 }
  | _ => none

/-- `n` stop records of exactly 17 bytes each (R208, R209). -/
def stopRecordsOf : Nat → List Byte → Option (List StopRecord)
  | 0, [] => some []
  | 0, _ :: _ => none
  | n + 1, bytes =>
    match stopRecordOf (bytes.take 17), stopRecordsOf n (bytes.drop 17) with
    | some r, some rest => some (r :: rest)
    | _, _ => none

/-- The body of LOAD_STOPS (R208). A record count of 0 or above 16, or a length other than 3 + 17 times it, does not fit (R209). -/
def loadStopsOf : List Byte → Option Command
  | a :: b :: n :: rest =>
    if n.toNat = 0 ∨ 16 < n.toNat then none else (stopRecordsOf n.toNat rest).map (.loadStops (word16 a b))
  | _ => none

/-- A command body by its kind (R201, R202), or nothing when it does not fit the kind's form. -/
def commandOf (kind : Byte) (body : List Byte) : Option Command :=
  match kind.toNat, body with
  | 0x01, [a, b, c, d, e, f, g, h] => some (.loadBegin ⟨word16 a b, word16 c d, word16 e f, word16 g h⟩)
  | 0x02, bytes => loadStopsOf bytes
  | 0x03, [s, a, b, m] => some (.loadSegment ⟨s, word16 a b, m⟩)
  | 0x04, [] => some .loadEnd
  | 0x05, [] => some .loadAbort
  | 0x06, [] => some .retireRoute
  | 0x07, [] => some .clearRoute
  | 0x10, [c, e, u, p, t, d, m, r] => some (.setChannel ⟨c, e, u, p, t, d, m, r⟩)
  | 0x11, [n, l, a, b, c, d, e, f, t] => some (.setProfile ⟨n, l, word16 a b, word16 c d, word16 e f, t⟩)
  | 0x12, [c, k, r, x] => some (.setDisposition ⟨c, k, r, x⟩)
  | 0x13, [c, h, l, a, b, d, e, f] => some (.setRouteParams ⟨c, h, l, word16 a b, word16 d e, f⟩)
  | 0x14, [u, p, t] => some (.setDock ⟨u, p, t⟩)
  | 0x15, [a, b] => some (.setNoticeMask (word16 a b))
  | 0x16, [m] => some (.setAttnMode m)
  | 0x20, [s] => some (.openSegment s)
  | 0x21, [s] => some (.closeSegment s)
  | 0x22, [a, b] => some (.skipStop (word16 a b))
  | 0x23, [a, b] => some (.unskipStop (word16 a b))
  | 0x28, [a, b] => some (.pollStop (word16 a b))
  | 0x29, [a, b] => some (.pollCancel (word16 a b))
  | 0x2A, [] => some .txEnable
  | 0x2B, [] => some .txInhibit
  | 0x30, [a, b, c, d, e] => some (.setClock (word16 a b) (word24 c d e))
  | 0x31, [s] => some (.clockSource s)
  | 0x40, [f, a, b, c, d] => some (.readStop f (word32 a b c d))
  | 0x41, [s] => some (.readSegment s)
  | 0x42, [a, b, n] => some (.readRevisit (word16 a b) n)
  | 0x43, [a, b, c, d, n] => some (.readRecords (word32 a b c d) n)
  | 0x44, [p, n] => some (.readForeign p n)
  | 0x45, [t] => some (.readStatus t)
  | 0x46, [t] => some (.readCounters t)
  | 0x50, [t] => some (.clearCounters t)
  | 0x51, [a, b] => some (.ackNotice (word16 a b))
  | 0x60, [] => some .dockReset
  | 0x61, [] => some .resetPart
  | _, _ => none

/-- The command kinds of the van link (R201). -/
def isCommandKind (kind : Byte) : Bool :=
  let k := kind.toNat
  (0x01 ≤ k && k ≤ 0x07) || (0x10 ≤ k && k ≤ 0x16) || (0x20 ≤ k && k ≤ 0x23) || (0x28 ≤ k && k ≤ 0x2B)
    || (0x30 ≤ k && k ≤ 0x31) || (0x40 ≤ k && k ≤ 0x46) || (0x50 ≤ k && k ≤ 0x51) || (0x60 ≤ k && k ≤ 0x61)

/-- The kind of a command (R201). -/
def commandKind : Command → Byte
  | .loadBegin _ => 0x01 | .loadStops _ _ => 0x02 | .loadSegment _ => 0x03 | .loadEnd => 0x04 | .loadAbort => 0x05
  | .retireRoute => 0x06 | .clearRoute => 0x07 | .setChannel _ => 0x10 | .setProfile _ => 0x11 | .setDisposition _ => 0x12
  | .setRouteParams _ => 0x13 | .setDock _ => 0x14 | .setNoticeMask _ => 0x15 | .setAttnMode _ => 0x16
  | .openSegment _ => 0x20 | .closeSegment _ => 0x21 | .skipStop _ => 0x22 | .unskipStop _ => 0x23 | .pollStop _ => 0x28
  | .pollCancel _ => 0x29 | .txEnable => 0x2A | .txInhibit => 0x2B | .setClock _ _ => 0x30 | .clockSource _ => 0x31
  | .readStop _ _ => 0x40 | .readSegment _ => 0x41 | .readRevisit _ _ => 0x42 | .readRecords _ _ => 0x43
  | .readForeign _ _ => 0x44 | .readStatus _ => 0x45 | .readCounters _ => 0x46 | .clearCounters _ => 0x50
  | .ackNotice _ => 0x51 | .dockReset => 0x60 | .resetPart => 0x61

/-! ## Bodies written (R202, R208) -/

/-- The bytes of a 2-byte field. -/
def bytes16 (w : Word16) : List Byte := [w.extractLsb' 8 8, w.extractLsb' 0 8]

/-- The bytes of a 3-byte field. -/
def bytes24 (w : Word24) : List Byte := [w.extractLsb' 16 8, w.extractLsb' 8 8, w.extractLsb' 0 8]

/-- The bytes of a 4-byte field. -/
def bytes32 (w : Word32) : List Byte := [w.extractLsb' 24 8, w.extractLsb' 16 8, w.extractLsb' 8 8, w.extractLsb' 0 8]

/-- A stop record in its 17 bytes, the unused bits 0 (R208). -/
def stopRecordBytes (r : StopRecord) : List Byte :=
  bytes32 r.meterId ++ [r.segment, r.digits ++ r.kindTag] ++ bytes32 r.previous
    ++ [BitVec.ofBool r.previousPresent ++ BitVec.ofBool r.pollable ++ (0 : BitVec 3) ++ r.profile] ++ bytes16 r.previousDay
    ++ [r.previousHour] ++ bytes24 r.expected

/-- The body of a command (R202). -/
def commandBody : Command → List Byte
  | .loadBegin b => bytes16 b.route ++ bytes16 b.shiftDay ++ bytes16 b.stops ++ bytes16 b.segments
  | .loadStops first records => bytes16 first ++ [BitVec.ofNat 8 records.length] ++ records.flatMap stopRecordBytes
  | .loadSegment b => b.segment :: bytes16 b.dwellLimit ++ [b.dwellMode]
  | .loadEnd | .loadAbort | .retireRoute | .clearRoute | .txEnable | .txInhibit | .dockReset | .resetPart => []
  | .setChannel b => [b.channel, b.enabled, b.cdUsed, b.cdPolarity, b.tag, b.degrade, b.mute, b.recover]
  | .setProfile b =>
    [b.profile, b.lowPct] ++ bytes16 b.highPct ++ bytes16 b.extremePct ++ bytes16 b.zeroHours ++ [b.backTol]
  | .setDisposition b => [b.category, b.recClass, b.report, b.recheck]
  | .setRouteParams b =>
    [b.confirmCount, b.holdTime, b.pollLimit] ++ bytes16 b.listenWindow ++ bytes16 b.storeHigh ++ [b.foreignReporting]
  | .setDock b => [b.detectUsed, b.polarity, b.threshold]
  | .setNoticeMask causes => bytes16 causes
  | .setAttnMode mode => [mode]
  | .openSegment segment => [segment]
  | .closeSegment segment => [segment]
  | .skipStop stop => bytes16 stop
  | .unskipStop stop => bytes16 stop
  | .pollStop stop => bytes16 stop
  | .pollCancel stop => bytes16 stop
  | .setClock day second => bytes16 day ++ bytes24 second
  | .clockSource source => [source]
  | .readStop form key => form :: bytes32 key
  | .readSegment segment => [segment]
  | .readRevisit first count => bytes16 first ++ [count]
  | .readRecords start count => bytes32 start ++ [count]
  | .readForeign first count => [first, count]
  | .readStatus target => [target]
  | .readCounters target => [target]
  | .clearCounters target => [target]
  | .ackNotice causes => bytes16 causes

/-- A command that its form can carry: LOAD_STOPS holds 1 to 16 records (R25, R209). -/
def commandFits : Command → Bool
  | .loadStops _ records => 1 ≤ records.length && records.length ≤ 16
  | _ => true

/-- The command that a row of the table stands for, with its link and tag. -/
def rowCommand : Instr → Option (Link × Byte × Command)
  | .setChannel tag b => some (.van, tag, .setChannel b)
  | .readForeign tag first count => some (.van, tag, .readForeign first count)
  | .loadBegin link tag b => some (link, tag, .loadBegin b)
  | .loadStops link tag first records => some (link, tag, .loadStops first records)
  | .loadSegment link tag b => some (link, tag, .loadSegment b)
  | .loadEnd link tag => some (link, tag, .loadEnd)
  | .loadAbort link tag => some (link, tag, .loadAbort)
  | .retireRoute tag => some (.van, tag, .retireRoute)
  | .clearRoute tag => some (.van, tag, .clearRoute)
  | .readStop tag form key => some (.van, tag, .readStop form key)
  | .setProfile link tag b => some (link, tag, .setProfile b)
  | .setRouteParams link tag b => some (link, tag, .setRouteParams b)
  | .setDisposition link tag b => some (link, tag, .setDisposition b)
  | .openSegment tag segment => some (.van, tag, .openSegment segment)
  | .closeSegment tag segment => some (.van, tag, .closeSegment segment)
  | .skipStop tag stop => some (.van, tag, .skipStop stop)
  | .unskipStop tag stop => some (.van, tag, .unskipStop stop)
  | .readRevisit tag first count => some (.van, tag, .readRevisit first count)
  | .readSegment tag segment => some (.van, tag, .readSegment segment)
  | .readRecords tag start count => some (.van, tag, .readRecords start count)
  | .pollStop tag stop => some (.van, tag, .pollStop stop)
  | .pollCancel tag stop => some (.van, tag, .pollCancel stop)
  | .txInhibit tag => some (.van, tag, .txInhibit)
  | .txEnable tag => some (.van, tag, .txEnable)
  | .dockReset tag => some (.van, tag, .dockReset)
  | .setDock tag b => some (.van, tag, .setDock b)
  | .setClock tag day second => some (.van, tag, .setClock day second)
  | .clockSource tag source => some (.van, tag, .clockSource source)
  | .readStatus tag target => some (.van, tag, .readStatus target)
  | .readCounters tag target => some (.van, tag, .readCounters target)
  | .clearCounters tag target => some (.van, tag, .clearCounters target)
  | .ackNotice tag causes => some (.van, tag, .ackNotice causes)
  | .setNoticeMask tag causes => some (.van, tag, .setNoticeMask causes)
  | .setAttnMode tag mode => some (.van, tag, .setAttnMode mode)
  | .resetPart tag => some (.van, tag, .resetPart)
  | .syncDetection .. | .headerComplete .. | .blockComplete .. | .carrierLoss _ | .carrierPresent _ | .streamStopped _
  | .muteHoldExpiry _ | .captureFrame _ | .holdTimerExpiry _ | .gatherLimitExpiry _ | .checkStart | .checkCompletion
  | .indexBuildComplete | .dwellTimerExpiry _ | .pollTake | .guardComplete | .clearWaitExpiry | .burstEnd
  | .listenWindowExpiry | .dockSignalPresent | .dockSignalAbsent | .dockSignalLoss | .aligned | .symbolError
  | .dockErrorWindowEnd | .abilityPage _ | .depotPage _ | .pageTimeout | .dockSendDone | .blockAck _ | .blockNak ..
  | .resendDelayExpiry | .ackTimerExpiry | .dockMessageArrival _ | .dockMessageAbandoned | .ppsPulse | .pulseWatchExpiry
  | .secondStep | .vanMessageArrival _ | .vanMessageDiscard _ | .vanByteGapTimeout | .byteWithoutStopBit | .outboundSent
  | .attnPulseEnd | .attnLowGapEnd | .supplyDip | .powerLost | .vddGood | .vddGoodLevelCrossing _ | .vbakLow _ | .resetNAssert
  | .resetNRelease | .startUp _ => none

/-- The dock message kinds that are no commands and that the depot sends (R201). -/
inductive DockArrival where
  | ability (page : AbilityPage)
  | depot (page : DepotPage)
  | ack (number : Byte)
  | nak (number reason : Byte)
deriving DecidableEq, Repr

/-- A page or acknowledgement from the depot (R201, R206, R211), or nothing when its kind is another or its body does not fit. -/
def dockArrivalOf (m : Message) : Option DockArrival :=
  match m.kind.toNat, m.body with
  | 0xA0, [f, n, a, b, r] => some (.ability ⟨f, n, word16 a b, r⟩)
  | 0xA2, [w, a, b] => some (.depot ⟨w, word16 a b⟩)
  | 0xAA, [n] => some (.ack n)
  | 0xAB, [n, r] => some (.nak n r)
  | _, _ => none

end Sys2Proof.Machine
end

