-- ==== Sys2Proof/Machine/Ops.lean ====
section
/-! DEFINITION. The named operations over the state that every block uses: one update per block, tables of stops and segments,
counters, timers, the notice state and the outbound queue of the van link (R180 to R183), and what a command answers (R175). -/

namespace Sys2Proof.Machine

/-! ## One update per block -/

/-- Update the supply monitor alone. -/
def State.modSupply (s : State) (f : Supply → Supply) : State := { s with supply := f s.supply }

/-- Update the receive channels alone. -/
def State.modChannels (s : State) (f : Vector Channel 4 → Vector Channel 4) : State := { s with channels := f s.channels }

/-- Update the capture filter alone. -/
def State.modCapture (s : State) (f : Capture → Capture) : State := { s with capture := f s.capture }

/-- Update the route book alone. -/
def State.modRoute (s : State) (f : Route → Route) : State := { s with route := f s.route }

/-- Update the tracker's lists alone. -/
def State.modTracker (s : State) (f : Tracker → Tracker) : State := { s with tracker := f s.tracker }

/-- Update the check engine alone. -/
def State.modCheck (s : State) (f : Option Check → Option Check) : State := { s with check := f s.check }

/-- Update the record store alone. -/
def State.modStore (s : State) (f : Store → Store) : State := { s with store := f s.store }

/-- Update the poll transmitter alone. -/
def State.modTx (s : State) (f : Transmitter → Transmitter) : State := { s with tx := f s.tx }

/-- Update the dock link controller alone. -/
def State.modDock (s : State) (f : Dock → Dock) : State := { s with dock := f s.dock }

/-- Update the route clock alone. -/
def State.modClock (s : State) (f : Clock → Clock) : State := { s with clock := f s.clock }

/-- Update the van link controller alone. -/
def State.modVan (s : State) (f : Van → Van) : State := { s with van := f s.van }

/-- Update one receive channel alone. -/
def State.modChannel (s : State) (ch : ChannelNo) (f : Channel → Channel) : State :=
  s.modChannels fun cs => cs.set ch (f cs[ch])

/-- Draw a free value (log 15). -/
def State.drawFree (s : State) : State := { s with freeUses := s.freeUses + 1 }

/-! ## Counters and timers -/

/-- Step a counter that saturates at `limit` (00_scope.md, Counters). -/
def satStep (limit n : Nat) : Nat := if n < limit then n + 1 else n

/-- A duration of `limit` ms started now (R170). -/
def Timer.start (limit : Nat) : Timer := ⟨0, limit⟩

/-- One millisecond more; a count that has reached its length stays there until its expiry is taken (log 4). -/
def Timer.tick (t : Timer) : Timer := { t with elapsed := min (t.elapsed + 1) t.limit }

/-- The count has reached the length the duration was started with (R170). -/
def Timer.due (t : Timer) : Bool := t.limit ≤ t.elapsed

/-! ## Stops and segments -/

/-- The segment that a stop's static field names; 0 for a stop not written, which no ACTIVE or RETIRED route holds (R28). -/
def Stop.segment (p : Stop) : Nat := (p.static.map (·.segment)).getD 0

/-- The meter ID of a stop; 0 for a stop not written. -/
def Stop.meterId (p : Stop) : Word32 := (p.static.map (·.meterId)).getD 0

/-- Whether a stop is pollable; no for a stop not written. -/
def Stop.pollable (p : Stop) : Bool := p.static.any (·.pollable)

/-- The register digits of a stop; 0 for a stop not written. -/
def Stop.digits (p : Stop) : Nat := (p.static.map (·.digits)).getD 0

/-- The load default of a stop (R24). -/
def Stop.loadDefault : Stop :=
  { static := none, status := .unread, prior := none, attempts := 0, recordCount := 0, latest := none }

/-- The load default of a segment (R24). -/
def Segment.loadDefault : Segment :=
  { state := .pending, stopCount := 0, dwellLimit := 0, dwellMode := .close, dwellElapsed := 0,
    counts := ⟨0, 0, 0, 0, 0, 0, 0⟩, late := 0, lapsed := 0 }

/-- The number of stops whose written mark is set (R26). -/
def Route.writtenCount (r : Route) : Nat := r.stops.countP (·.static.isSome)

/-- Update one stop of the stop table. -/
def State.modStop (s : State) (i : Nat) (f : Stop → Stop) : State :=
  s.modRoute fun r => { r with stops := r.stops.modify i f }

/-- Update one segment of the segment table. -/
def State.modSegment (s : State) (n : Nat) (f : Segment → Segment) : State :=
  s.modRoute fun r => { r with segments := r.segments.modify n f }

/-- The state of a segment; PENDING for a number the segment table does not hold. -/
def State.segmentState (s : State) (n : Nat) : SegmentState := (s.route.segments[n]?.map (·.state)).getD .pending

/-- The stop indexes of the stop table in ascending order. -/
def Route.stopIndexes (r : Route) : List Nat := List.range r.stops.length

/-- The counter of one status (R52). -/
def StatusCounts.of (c : StatusCounts) : Status → Nat
  | .unread => c.unread | .heard => c.heard | .recheck => c.recheck | .read => c.read | .flagged => c.flagged
  | .missed => c.missed | .skipped => c.skipped

/-- Change the counter of one status (R52). -/
def StatusCounts.mod (c : StatusCounts) (f : Nat → Nat) : Status → StatusCounts
  | .unread => { c with unread := f c.unread }
  | .heard => { c with heard := f c.heard }
  | .recheck => { c with recheck := f c.recheck }
  | .read => { c with read := f c.read }
  | .flagged => { c with flagged := f c.flagged }
  | .missed => { c with missed := f c.missed }
  | .skipped => { c with skipped := f c.skipped }

/-- The outstanding count: unread, heard and recheck together (R53). -/
def StatusCounts.outstanding (c : StatusCounts) : Nat := c.unread + c.heard + c.recheck

/-- The counter bytes of a segment in the order of R46: the seven status counters, late, recheck-lapsed. -/
def Segment.counterBytes (g : Segment) : List Byte :=
  u16 g.counts.unread ++ u16 g.counts.heard ++ u16 g.counts.recheck ++ u16 g.counts.read ++ u16 g.counts.flagged
    ++ u16 g.counts.missed ++ u16 g.counts.skipped ++ u16 g.late ++ u16 g.lapsed

/-! ## Time -/

/-- The timestamp of an event (R169). -/
def State.stamp (s : State) : Stamp := ⟨s.clock.day, s.clock.second, s.clock.state⟩

/-! ## Notices and the outbound queue -/

/-- Set the notice state of one cause. -/
def State.modNotice (s : State) (c : Cause) (f : Notice → Notice) : State :=
  s.modVan fun v => { v with notices := v.notices.set c.code (f v.notices[c.code]) }

/-- The notice state of one cause. -/
def State.notice (s : State) (c : Cause) : Notice := s.van.notices[c.code]

/-- An occurrence of a cause (R182): a first one sets the pending flag and keeps its detail, a later one steps the count. -/
def State.occur (s : State) (c : Cause) (detail : List Byte) : State :=
  s.modNotice c fun n =>
    if n.pending then { n with count := satStep 65535 n.count }
    else { n with pending := true, count := 1, detail := some detail }

/-- A cause is due when it is pending, unmasked and not announced (R182). -/
def Notice.due (n : Notice) : Bool := n.pending && !n.masked && !n.announced

/-- Put a message at the tail of the outbound queue (R180). -/
def State.queueMessage (s : State) (m : Message) : State := s.modVan fun v => { v with outbound := v.outbound ++ [m] }

/-- One more ATTN pulse owed, begun at once when ATTN is at rest (R187, PULSE mode). -/
def Van.pulse (v : Van) : Van :=
  match v.attnMode, v.attnPhase with
  | .level, _ => v
  | .pulse, .rest => { v with attnPhase := .high }
  | .pulse, _ => { v with attnOwed := v.attnOwed + 1 }

/-- The NOTICE of a cause (R183, R210): the cause code, the occurrence count and the first detail as they stand. -/
def Notice.message (n : Notice) (c : Cause) : Message :=
  { kind := 0x85, tag := 0, body := u8 c.code.val ++ u16 n.count ++ n.detail.getD [] }

/-- Announce a cause that is due, if the outbound queue has a free place; otherwise it stays due (R183). -/
def State.announce (s : State) (c : Cause) : State :=
  if (s.notice c).due ∧ s.van.outbound.length < Config.outboundCapacity then
    ((s.queueMessage ((s.notice c).message c)).modNotice c fun n => { n with announced := true }).modVan Van.pulse
  else s

/-- Announce the causes of a list in its order, one place each. -/
def State.announceList (s : State) (causes : List Cause) : State := causes.foldl State.announce s

/-- Announce every due cause in code order (R183). -/
def State.announceDue (s : State) : State := s.announceList Cause.all

/-- Queue a report (R180, R181): it joins while the outbound queue holds fewer than 56 messages; otherwise it is dropped, steps
"reports lost" and is an occurrence of REPORTS_LOST. -/
def State.queueReport (s : State) (kind : Byte) (body : List Byte) : State :=
  if s.van.outbound.length < Config.reportCapacity then s.queueMessage ⟨kind, 0, body⟩
  else
    let s' := s.modVan fun v =>
      { v with counters := { v.counters with reportsLost := satStep 65535 v.counters.reportsLost } }
    s'.occur .reportsLost (u8 kind.toNat ++ u16 s'.van.counters.reportsLost)

/-! ## Steps and answers -/

/-- The end of an event: the causes that became due are announced as places allow (R183). -/
def State.finish (s : State) : Host.Outcome State Fault Refusal := .next s.announceDue

/-- An event that only a working part takes (R194): before HELLO it is lost without a count. -/
def whenRunning (s : State) (act : State → State) : Host.Outcome State Fault Refusal :=
  match s.supply.monitor with
  | .run => (act s).finish
  | .off | .dip | .held | .start => .next s

/-- The refusal codes (R176, R201). -/
inductive RefusalCode where
  | badForm | badValue | wrongState | loadOwned | openLimit | pollFull | already | notFound | dupId | count
deriving DecidableEq, Repr

/-- Code of a refusal code (R201). -/
def RefusalCode.code : RefusalCode → Nat
  | .badForm => 1 | .badValue => 2 | .wrongState => 3 | .loadOwned => 4 | .openLimit => 5 | .pollFull => 6 | .already => 7
  | .notFound => 8 | .dupId => 9 | .count => 10

/-- The result of a command (R175): OK with its data, or REFUSED with its code and detail. -/
inductive Answer where
  | ok (data : List Byte)
  | refused (code : RefusalCode) (detail : List Byte)
deriving DecidableEq, Repr

/-- The body of a REPLY (R201). -/
def Answer.body (kind : Byte) : Answer → List Byte
  | .ok data => kind :: 0 :: data
  | .refused code detail => kind :: 1 :: (u8 code.code ++ detail)

/-- The REPLY to a command, echoing its tag (R175). -/
def replyMessage (kind tag : Byte) (a : Answer) : Message := ⟨0x80, tag, a.body kind⟩

/-- BAD_VALUE with the first offending field, numbered by its place in the body (R203). -/
def badValue (field : Nat) : Answer := .refused .badValue (u8 field)

/-- The state that refused a command (R198): which state, then its code (R203). -/
def wrongState (which code : Nat) : Answer := .refused .wrongState (u8 which ++ u8 code)

/-- WRONG_STATE on account of the route-table state. -/
def wrongRoute (s : State) : Answer := wrongState 0 s.route.state.code

/-- LOAD_OWNED with the owner (R203). -/
def loadOwned (s : State) : Answer := .refused .loadOwned (u8 (ownerCode s.route.owner))

/-- The limits on a settings write by its link (R40): from the dock link only within a load that the dock link owns. -/
def State.settingsLimit (s : State) : Link → Option Answer
  | .van => none
  | .dock =>
    if s.route.state = .loading then (if s.route.owner = some .dock then none else some (loadOwned s))
    else some (wrongRoute s)

/-- The number of the first test that fails, in the order given. -/
def firstFailing : List (Nat × Bool) → Option Nat
  | [] => none
  | (field, holds) :: rest => if holds then firstFailing rest else some field

/-- Refuse without any change of state: a refused command leaves the state it names unchanged (R175). -/
def refuse (s : State) (a : Answer) : State × Answer := (s, a)

end Sys2Proof.Machine
end

