-- ==== Sys2Proof/Machine/PollOps.lean ====
section
/-! DEFINITION. The poll queue and the poll in hand as other blocks reach them: candidates and the refill scan (R127, R128), removals
and withdrawals (R130), returns (R137) and the reply match (R135). -/

namespace Sys2Proof.Machine

/-- The poll in hand (R132). -/
def TxState.poll : TxState → Option PollEntry
  | .idle => none
  | .clearing p _ _ => some p
  | .keyed p _ _ _ => some p
  | .listen p _ _ _ => some p

/-- Whether a poll is on the air or awaited: KEYED or LISTEN. -/
def TxState.onAir : TxState → Bool
  | .idle | .clearing .. => false
  | .keyed .. | .listen .. => true

/-- A queue entry names the stop, or it is the stop of the poll in hand (R127). -/
def Transmitter.names (t : Transmitter) (i : Nat) : Bool :=
  t.queue.any (·.stop == i) || t.state.poll.any (·.stop == i)

/-- UNREAD, MISSED or RECHECK: open to capture and to polling (R72, R127). -/
def Status.wanted : Status → Bool
  | .unread | .missed | .recheck => true
  | .heard | .read | .flagged | .skipped => false

/-- A poll candidate (R127). -/
def State.candidate (s : State) (i : Nat) : Bool :=
  s.route.state == .active &&
  match s.route.stops[i]? with
  | none => false
  | some p =>
    p.pollable && s.segmentState p.segment == .opened && p.status.wanted && decide (p.attempts < s.route.params.pollLimit)
      && !s.tx.names i

/-- The queue entry of a stop (R126). -/
def State.pollEntry (s : State) (i : Nat) (origin : Origin) : PollEntry :=
  ⟨i, ((s.route.stops[i]?).map Stop.meterId).getD 0, origin⟩

/-- Put an entry at the tail of the poll queue. -/
def State.pushPoll (s : State) (p : PollEntry) : State := s.modTx fun t => { t with queue := t.queue ++ [p] }

/-- The stops that a refill scan examines, in its order: the OPEN segments in open order, in each the stops of the segment in
ascending index order (R127). -/
def State.scanOrder (s : State) : List Nat :=
  s.tracker.openOrder.flatMap fun g =>
    s.route.stopIndexes.filter fun i => (s.route.stops[i]?).any (·.segment == g)

/-- One stop met by a refill scan (R127). -/
def State.scanStop (s : State) (i : Nat) : State :=
  if s.tx.queue.length < Config.pollCapacity ∧ s.candidate i then
    s.pushPoll (s.pollEntry i (if (s.route.stops[i]?).any (·.status == .recheck) then .recheck else .opened))
  else s

/-- A refill scan, taken as one event (R127). -/
def State.refillScan (s : State) : State := s.scanOrder.foldl State.scanStop s

/-- A refill scan where an event of R128 calls for one. -/
def State.scanIf (s : State) (called : Bool) : State := if called then s.refillScan else s

/-- A queue entry, or a poll in hand in CLEARING, is for a stop of the kind given: what a removal event reaches (R130). -/
def State.pollsReached (s : State) (named : Nat → Bool) : Bool :=
  s.tx.queue.any (fun p => named p.stop) ||
  match s.tx.state with
  | .clearing p _ _ => named p.stop
  | .idle | .keyed .. | .listen .. => false

/-- Remove the queue entries for the stops given, and withdraw a poll in hand in CLEARING for one of them (R130). The refill scan
that goes with it is taken by the event that removes. -/
def State.dropPolls (s : State) (named : Nat → Bool) : State :=
  s.modTx fun t =>
    { t with
      queue := t.queue.filter fun p => !named p.stop
      state := match t.state with
        | .clearing p g w => if named p.stop then .idle else .clearing p g w
        | other => other }

/-- Remove and withdraw, then take the refill scan that an entry's leaving or an entry into IDLE calls for (R128). -/
def State.removePolls (s : State) (named : Nat → Bool) : State := (s.dropPolls named).scanIf (s.pollsReached named)

/-- A poll returned to the tail of the queue; with 32 entries there it is dropped (R137). -/
def Transmitter.returnTail (t : Transmitter) (p : PollEntry) : Transmitter :=
  if t.queue.length < Config.pollCapacity then { t with queue := t.queue ++ [p] } else t

/-- A poll returned to the head of the queue; with 32 entries there the tail entry is removed first (R137). -/
def Transmitter.returnHead (t : Transmitter) (p : PollEntry) : Transmitter :=
  { t with queue := p :: if t.queue.length < Config.pollCapacity then t.queue else t.queue.dropLast }

/-- The reply match (R65, R135): in LISTEN, meter ID and token both equal to those of the poll in hand. -/
def Transmitter.matches (t : Transmitter) (f : Frame) : Bool :=
  match f.kind, t.state with
  | .reply, .listen p token _ _ => p.meterId == f.meterId && f.token == some token
  | _, _ => false

/-- A matched reply ends the poll as satisfied (R135), and the entry into IDLE takes a refill scan (R128). -/
def State.satisfyPoll (s : State) : State :=
  (s.modTx fun t =>
    { t with state := .idle, counters := { t.counters with satisfied := t.counters.satisfied + 1 } }).refillScan

end Sys2Proof.Machine
end

