-- ==== Sys2Proof/Machine/Tracker.lean ====
section
/-! DEFINITION. The route tracker's shared operations: the change of a stop's status with its segment's counters (R42, R52), the
revisit list (R60), the return of a HEARD stop (R45) and SEGMENT_COMPLETE (R53). -/

namespace Sys2Proof.Machine

/-- Change a stop's status and prior status, and move its segment's counters in the same change (R42). -/
def State.setStatus (s : State) (i : Nat) (new : Status) (prior : Option Status) : State :=
  match s.route.stops[i]? with
  | none => s
  | some p =>
    (s.modStop i fun q => { q with status := new, prior := prior }).modSegment p.segment fun g =>
      { g with counts := (g.counts.mod (· - 1) p.status).mod (· + 1) new }

/-- The outstanding count of a segment (R53). -/
def State.outstanding (s : State) (n : Nat) : Nat := (s.route.segments[n]?.map (·.counts.outstanding)).getD 0

/-- SEGMENT_COMPLETE: the change brought the outstanding count of an OPEN segment from above 0 to 0 (R53). -/
def State.noteComplete (s : State) (n before : Nat) : State :=
  if s.segmentState n = .opened ∧ 0 < before ∧ s.outstanding n = 0 then s.occur .segmentComplete (u8 n) else s

/-- A stop joins the tail of the revisit list unless it is on it already (R60). -/
def State.joinRevisit (s : State) (i : Nat) : State :=
  s.modTracker fun t => { t with revisit := if i ∈ t.revisit then t.revisit else t.revisit ++ [i] }

/-- A stop leaves the revisit list, wherever it stands (R60). -/
def State.leaveRevisit (s : State) (i : Nat) : State :=
  s.modTracker fun t => { t with revisit := t.revisit.filter (· ≠ i) }

/-- The late counter steps (R52). -/
def State.stepLate (s : State) (n : Nat) : State := s.modSegment n fun g => { g with late := satStep 65535 g.late }

/-- The recheck-lapsed counter steps (R52). -/
def State.stepLapsed (s : State) (n : Nat) : State := s.modSegment n fun g => { g with lapsed := satStep 65535 g.lapsed }

/-- READ for BILLING, FLAGGED for REVIEW and TAMPER (R44). -/
def RecClass.status : RecClass → Status
  | .billing => .read
  | .review | .tamper => .flagged

/-- READ or FLAGGED by the class of the latest record (R45, R51). A stop in RECHECK always has a latest record; without one the
model answers FLAGGED, which no reachable state shows (log 28). -/
def Stop.latestStatus (p : Stop) : Status := (p.latest.map (·.recClass.status)).getD .flagged

/-- The status to which a HEARD stop returns, by the table of R45. -/
def Stop.returnStatus (p : Stop) (segment : SegmentState) (route : RouteState) : Status :=
  match p.prior with
  | some .missed => .missed
  | some .read => .read
  | some .flagged => .flagged
  | some .recheck => if segment = .closed ∨ route = .retired then p.latestStatus else .recheck
  | _ => if segment = .closed then .missed else .unread

/-- The return of a HEARD stop (R45): its status, the revisit list and the recheck-lapsed counter. -/
def State.returnStop (s : State) (i : Nat) : State :=
  match s.route.stops[i]? with
  | none => s
  | some p =>
    let new := p.returnStatus (s.segmentState p.segment) s.route.state
    let s := s.setStatus i new none
    let s := if new = .missed then s.joinRevisit i else s
    if p.prior = some .recheck ∧ new ≠ .recheck then s.stepLapsed p.segment else s

end Sys2Proof.Machine
end

