-- ==== Sys2Proof/Machine/Finalise.lean ====
section
/-! DEFINITION. Finalisation of heard entries (R81 to R83) and the close rule of segments (R51), which finalises, removes polls and
settles the segment's stops. -/

namespace Sys2Proof.Machine

/-- An entry is GATHERING until it is finalised (R81). -/
def Entry.gathering (e : Entry) : Bool := e.final.isNone

/-- `a` lies behind `b` by 1 to 2,147,483,647, counted forward modulo 2^32 (R74). -/
def orderBefore (a b : Word32) : Bool := 1 ≤ (b - a).toNat && (b - a).toNat ≤ 2147483647

/-- Insert an entry into a list by creation order, oldest first (R74). -/
def insertByAge (e : Entry) : List Entry → List Entry
  | [] => [e]
  | x :: rest => if orderBefore e.created x.created then e :: x :: rest else x :: insertByAge e rest

/-- Entries in creation order, oldest first: "oldest first-heard time first" (R74). -/
def byAge (entries : List Entry) : List Entry := entries.foldr insertByAge []

/-- The GATHERING entries of the heard table, oldest first (R82). -/
def Capture.gatheringByAge (c : Capture) : List Entry := byAge (c.heard.filter (·.gathering))

/-- Whether an entry of the heard table is FINAL_WAIT. -/
def Capture.anyFinalWait (c : Capture) : Bool := c.heard.any fun e => !e.gathering

/-- The GATHERING entry of a stop (R73). -/
def Capture.gatheringFor (c : Capture) (i : Nat) : Option Entry := c.heard.find? fun e => e.stop == i && e.gathering

/-- The entry as finalised (R81): its confirmation by the confirm count in force, and its place in the finalisation order. The
timers go no further (R83), since only a GATHERING entry's timers run. -/
def Entry.finalised (e : Entry) (confirmCount : Nat) (order : Word32) : Entry :=
  { e with final := some ⟨decide (confirmCount ≤ e.eligible), order⟩ }

/-- Hand a finalised entry toward the check engine (R83): into the check queue when it holds fewer than 16 entries and no entry is
FINAL_WAIT, leaving the heard table; otherwise it stays there as FINAL_WAIT. -/
def Capture.handToCheck (c : Capture) (e : Entry) : Capture :=
  if c.queue.length < Config.checkCapacity ∧ !c.anyFinalWait then
    { c with heard := c.heard.filter (·.stop ≠ e.stop), queue := c.queue ++ [e] }
  else { c with heard := c.heard.map fun x => if x.stop = e.stop then e else x }

/-- Finalise the GATHERING entry of a stop (R81). -/
def State.finalise (s : State) (i : Nat) : State :=
  match s.capture.gatheringFor i with
  | none => s
  | some e =>
    s.modCapture fun c =>
      let c := c.handToCheck (e.finalised s.route.params.confirmCount c.nextFinal)
      { c with nextFinal := c.nextFinal + 1 }

/-- Finalise several GATHERING entries one after another (R82). -/
def State.finaliseAll (s : State) (entries : List Entry) : State := entries.foldl (fun s e => s.finalise e.stop) s

/-- Causes of SEGMENT_CLOSED (R54). -/
inductive CloseCause where
  | command | dwell | retire
deriving DecidableEq, Repr

/-- Code of a close cause (R210). -/
def CloseCause.code : CloseCause → Nat
  | .command => 0 | .dwell => 1 | .retire => 2

/-- Whether a stop index names a stop of the segment. -/
def State.inSegment (s : State) (n i : Nat) : Bool := (s.route.stops[i]?).any (·.segment == n)

/-- The stops of a segment that hold a status, in ascending index order. -/
def State.stopsOf (s : State) (n : Nat) (status : Status) : List Nat :=
  s.route.stopIndexes.filter fun i => (s.route.stops[i]?).any fun p => p.segment == n && p.status == status

/-- Step 3 of the close rule for one stop: UNREAD becomes MISSED and joins the revisit list (R51). -/
def State.missStop (s : State) (i : Nat) : State := (s.setStatus i .missed none).joinRevisit i

/-- Step 4 of the close rule for one stop: RECHECK becomes READ or FLAGGED and lapses (R51). -/
def State.lapseStop (s : State) (i : Nat) : State :=
  match s.route.stops[i]? with
  | none => s
  | some p => (s.setStatus i p.latestStatus none).stepLapsed p.segment

/-- The close rule (R51) on one OPEN segment. The refill scan that the removals of step 2 call for is taken once the segment is
closed: it finds no candidate in it. -/
def State.closeRule (s : State) (n : Nat) (cause : CloseCause) : State :=
  let removed := s.pollsReached (s.inSegment n)
  let s := s.finaliseAll (s.capture.gatheringByAge.filter fun e => s.inSegment n e.stop)
  let s := s.dropPolls (s.inSegment n)
  let missed := s.stopsOf n .unread
  let s := missed.foldl State.missStop s
  let lapsed := s.stopsOf n .recheck
  let s := lapsed.foldl State.lapseStop s
  let s := s.modSegment n fun g => { g with state := .closed }
  let s := s.modTracker fun t => { t with openOrder := t.openOrder.filter (· ≠ n) }
  let s := s.occur .segmentClosed (u8 n ++ u8 cause.code ++ u16 missed.length ++ u16 lapsed.length)
  s.scanIf removed

end Sys2Proof.Machine
end

