-- ==== Sys2Proof/Machine/Capture.lean ====
section
/-! DEFINITION. The capture filter (04_capture_and_the_heard_table.md): the classification of frames, the foreign list, heard entries and
their copies, the expiries that finalise, and READ_FOREIGN. -/

namespace Sys2Proof.Machine

/-- Step a capture counter (R87). -/
def State.countCapture (s : State) (f : CaptureCounters → CaptureCounters) : State :=
  s.modCapture fun c => { c with counters := f c.counters }

/-- The stop that the meter index holds for a meter ID (R33). -/
def Route.lookup (r : Route) (id : Word32) : Option Nat := ((r.index.getD []).find? (·.1 == id)).map (·.2)

/-! ## Foreign meters -/

/-- The body of a FOREIGN_REPORT (R210). -/
def foreignReportBody (f : Frame) (t : Stamp) : List Byte :=
  u32 f.meterId.toNat ++ u8 f.kind.code ++ u32 f.reading.toNat ++ f.flags.bytes ++ u8 f.sequence.toNat ++ u8 f.channel.val
    ++ u8 f.tag ++ u8 f.level ++ stampBytes t

/-- A foreign frame enters the foreign list (R68): a hit moves its item to the head, a first sighting makes one, at the cost of the
tail when the list holds 64, and queues a FOREIGN_REPORT when foreign reporting is on. -/
def State.foreignSighting (s : State) (f : Frame) : State :=
  let others := s.capture.foreign.filter (·.meterId ≠ f.meterId)
  match s.capture.foreign.find? (·.meterId == f.meterId) with
  | some item =>
    s.modCapture fun c =>
      { c with foreign := ⟨f.meterId, satStep 65535 item.copies, s.stamp, f.channel, f.level⟩ :: others }
  | none =>
    let kept := if s.capture.foreign.length < Config.foreignCapacity then s.capture.foreign else s.capture.foreign.dropLast
    let s' := s.modCapture fun c => { c with foreign := ⟨f.meterId, 1, s.stamp, f.channel, f.level⟩ :: kept }
    if s.route.params.foreignReporting then s'.queueReport 0x84 (foreignReportBody f s.stamp) else s'

/-! ## Heard entries -/

/-- A copy is eligible when it came from an ACTIVE channel or carries a poll match (R75). -/
def eligibleCopy (f : Frame) (matched : Bool) : Bool := f.fromActive || matched

/-- The mark of one channel in a channel mask (R78). -/
def channelMark (ch : ChannelNo) : BitVec 4 := 1#4 <<< ch.val

/-- The entry that a frame opens (R74). -/
def State.newEntry (s : State) (i : Nat) (prior : Status) (f : Frame) (matched followup : Bool) : Entry :=
  { stop := i, meterId := f.meterId, created := s.capture.nextCreation, prior := prior, best := f,
    eligible := (eligibleCopy f matched).toNat, copies := 1, mask := channelMark f.channel, union := f.flags,
    alarm := f.kind == .alarm, conflict := false, polled := matched, followup := followup, firstHeard := s.stamp,
    lastHeard := s.stamp, hold := .start (1000 * s.route.params.holdTime), gather := .start (4000 * s.route.params.holdTime),
    final := none }

/-- The test for finalisation after a copy (R79): the eligible count reaches the confirm count in force, or POLLED is set. -/
def State.testFinal (s : State) (i : Nat) : State :=
  match s.capture.gatheringFor i with
  | none => s
  | some e => if s.route.params.confirmCount ≤ e.eligible ∨ e.polled then s.finalise i else s

/-- Open a heard entry in a free place (R74): the stop becomes HEARD, its queued poll leaves the queue, the entry is tested. -/
def State.openEntry (s : State) (i : Nat) (prior : Status) (f : Frame) (matched followup : Bool) : State :=
  let e := s.newEntry i prior f matched followup
  let s := s.modCapture fun c => { c with heard := c.heard ++ [e], nextCreation := c.nextCreation + 1 }
  let s := s.setStatus i .heard (some prior)
  let s := s.removePolls (· == i)
  s.testFinal i

/-- A frame that needs a new entry (R72, R86): a full heard table first evicts its oldest GATHERING entry; where no place comes
free the frame steps "capture overflow". -/
def State.openOrEvict (s : State) (i : Nat) (prior : Status) (f : Frame) (matched followup : Bool) : State :=
  if s.capture.heard.length < Config.heardCapacity then s.openEntry i prior f matched followup
  else
    match s.capture.gatheringByAge with
    | [] => s.countCapture fun k => { k with overflow := k.overflow + 1 }
    | oldest :: _ =>
      let s := (s.finalise oldest.stop).countCapture fun k => { k with evictions := k.evictions + 1 }
      if s.capture.heard.length < Config.heardCapacity then s.openEntry i prior f matched followup
      else s.countCapture fun k => { k with overflow := k.overflow + 1 }

/-- The wrap pattern of a register of `d` digits: from the top tenth to the bottom tenth (R77, R97). -/
def wrapPattern (d old new : Nat) : Bool := 9 * 10 ^ (d - 1) ≤ old && new < 10 ^ (d - 1)

/-- Of two copies of the same transmission with the same reading, whether the new one is better (R76). -/
def betterCopy (new best : Frame) : Bool :=
  if new.corrections ≠ best.corrections then new.corrections < best.corrections
  else if new.level ≠ best.level then best.level < new.level
  else new.channel.val < best.channel.val

/-- The best copy after a copy, and whether it sets CONFLICT (R76, R77). `d` is the stop's register digits. -/
def compareCopy (d : Nat) (best new : Frame) : Frame × Bool :=
  let ahead := (new.sequence - best.sequence).toNat
  if ahead = 0 then
    if new.reading = best.reading then (if betterCopy new best then new else best, false) else (best, true)
  else if ahead ≤ 127 then
    (new, decide (new.reading.toNat < best.reading.toNat) && !wrapPattern d best.reading.toNat new.reading.toNat)
  else (best, false)

/-- A GATHERING entry after one more copy (R75, R76, R78). -/
def Entry.withCopy (e : Entry) (d holdTime : Nat) (t : Stamp) (f : Frame) (matched : Bool) : Entry :=
  let (best, conflict) := compareCopy d e.best f
  { e with
    best := best
    conflict := e.conflict || conflict
    copies := satStep 65535 e.copies
    eligible := if eligibleCopy f matched then satStep 255 e.eligible else e.eligible
    mask := e.mask ||| channelMark f.channel
    union := e.union.union f.flags
    alarm := e.alarm || f.kind == .alarm
    polled := e.polled || matched
    lastHeard := t
    hold := .start (1000 * holdTime) }

/-- A copy added to the GATHERING entry of a stop (R78), then the test of R79. -/
def State.addCopy (s : State) (i d : Nat) (f : Frame) (matched : Bool) : State :=
  (s.modCapture fun c =>
    { c with
      heard := c.heard.map fun e =>
        if e.stop = i ∧ e.gathering then e.withCopy d s.route.params.holdTime s.stamp f matched else e }).testFinal i

/-! ## Classifying a frame -/

/-- The body of an ALARM_REPORT (R71, R210). -/
def alarmReportBody (i : Nat) (p : Stop) (f : Frame) (t : Stamp) : List Byte :=
  u16 i ++ u32 p.meterId.toNat ++ u8 p.segment ++ u32 f.reading.toNat ++ f.flags.bytes ++ u8 f.sequence.toNat
    ++ (f.flags.newTamper ((p.latest.map (·.evidence)).getD .empty)).bytes ++ u32 ((p.latest.map (·.sequence)).getD 0)
    ++ u8 f.channel.val ++ u8 f.tag ++ u8 f.level ++ stampBytes t

/-- An ALARM is a follow-up when it holds a tamper flag absent from the evidence of the stop's latest record (R70). -/
def isFollowup (p : Stop) (f : Frame) : Bool :=
  f.kind == .alarm && (f.flags.newTamper ((p.latest.map (·.evidence)).getD .empty)).anyTamper

/-- A frame for a READ or FLAGGED stop (R70, R71). -/
def State.settledFrame (s : State) (i : Nat) (p : Stop) (f : Frame) (matched : Bool) : State :=
  if !isFollowup p f then s.countCapture fun k => { k with duplicate := k.duplicate + 1 }
  else if p.recordCount < 2 then s.openOrEvict i p.status f matched true
  else
    (s.countCapture fun k => { k with beyondLimit := k.beyondLimit + 1 }).queueReport 0x83 (alarmReportBody i p f s.stamp)

/-- A frame for a HEARD stop: a copy while its entry gathers, a late copy afterwards (R73). -/
def State.heardFrame (s : State) (i : Nat) (p : Stop) (f : Frame) (matched : Bool) : State :=
  if (s.capture.gatheringFor i).isSome then s.addCopy i p.digits f matched
  else s.countCapture fun k => { k with lateCopy := k.lateCopy + 1 }

/-- A frame whose meter is on the route, by the status of its stop (tests 3 to 7 of the table of R65). -/
def State.stopFrame (s : State) (i : Nat) (p : Stop) (f : Frame) (matched : Bool) : State :=
  match p.status with
  | .skipped => s.countCapture fun k => { k with skipped := k.skipped + 1 }
  | .read | .flagged => s.settledFrame i p f matched
  | .unread | .missed | .recheck => s.openOrEvict i p.status f matched false
  | .heard => s.heardFrame i p f matched

/-- The tests that a frame meets in order (R65 to R67). -/
def State.classify (s : State) (f : Frame) (matched : Bool) : State :=
  if s.route.state ≠ .active then s.countCapture fun k => { k with noRoute := k.noRoute + 1 }
  else
    match (s.route.lookup f.meterId).bind fun i => s.route.stops[i]?.map fun p => (i, p) with
    | none => (s.countCapture fun k => { k with foreign := k.foreign + 1 }).foreignSighting f
    | some (i, p) => s.stopFrame i p f matched

/-- CAPTURE_FRAME (R65): the oldest frame that the channel has handed on; a REPLY is offered to the reply match before any test. -/
def execCaptureFrame (ch : ChannelNo) (s : State) : Host.Outcome State Fault Refusal :=
  whenRunning s fun s =>
    match s.capture.handedOn.find? (·.channel == ch) with
    | none => s
    | some f =>
      let s := s.modCapture fun c => { c with handedOn := c.handedOn.eraseP (·.channel == ch) }
      let matched := s.tx.matches f
      (if matched then s.satisfyPoll else s).classify f matched

/-! ## Expiries -/

/-- Finalise the GATHERING entry of a stop when the timer named has expired (R80). -/
def State.expireEntry (s : State) (i : Nat) (timer : Entry → Timer) : State :=
  if (s.capture.gatheringFor i).any (fun e => (timer e).due) then s.finalise i else s

/-- HOLD_TIMER_EXPIRY (R80). -/
def execHoldTimerExpiry (stop : Nat) (s : State) : Host.Outcome State Fault Refusal :=
  whenRunning s fun s => s.expireEntry stop Entry.hold

/-- GATHER_LIMIT_EXPIRY (R80). -/
def execGatherLimitExpiry (stop : Nat) (s : State) : Host.Outcome State Fault Refusal :=
  whenRunning s fun s => s.expireEntry stop Entry.gather

/-! ## READ_FOREIGN -/

/-- One item of a READ_FOREIGN reply: its position and the fields of R68. -/
def foreignItemBytes (position : Nat) (item : ForeignItem) : List Byte :=
  u8 position ++ u32 item.meterId.toNat ++ u16 item.copies ++ stampBytes item.lastHeard ++ u8 item.channel.val ++ u8 item.level

/-- READ_FOREIGN (R69). -/
def actReadForeign (first count : Byte) (s : State) : State × Answer :=
  let list := s.capture.foreign
  match firstFailing [(0, first.toNat ≤ 63), (1, 1 ≤ count.toNat && count.toNat ≤ 16)] with
  | some field => refuse s (badValue field)
  | none =>
    if list.length ≤ first.toNat then refuse s (.refused .notFound (u8 list.length))
    else
      let items := (list.drop first.toNat).take count.toNat
      (s, .ok (u8 list.length ++ listOf (items.mapIdx fun k item => foreignItemBytes (first.toNat + k) item)))

end Sys2Proof.Machine
end

