-- ==== Sys2Proof/Machine/Channels.lean ====
section
/-! DEFINITION. The receive channels (01_receive_channels_and_air_frames.md): port, decoder, quality window, channel state, the frames
handed on, and SET_CHANNEL. -/

namespace Sys2Proof.Machine

/-! ## The port and the CH0 indications -/

/-- How an entry reads CDn (R4). -/
def PlanEntry.carrierRule (e : PlanEntry) : CarrierRule := ⟨e.cdUsed, e.cdHigh⟩

/-- The carrier indication (R4): with CD used, present while CDn stands at the level named by the polarity; otherwise always. -/
def Channel.carrier (c : Channel) : Bool := !c.entry.cdUsed || c.cdPin == c.entry.cdHigh

/-- Frame in progress: HEADER or BODY (R11). -/
def Decoder.inProgress : Decoder → Bool
  | .header _ | .body _ _ => true
  | .off | .hunt | .blanked => false

/-- The carrier rule that governs now: that of the attempt in progress (R17), otherwise that of the entry in force. -/
def Channel.rule (c : Channel) : CarrierRule :=
  match c.decoder with
  | .header r => r
  | .body r _ => r
  | .off | .hunt | .blanked => c.entry.carrierRule

/-- CH0 is clear: no frame in progress and, where its entry uses CD, no carrier (R133). -/
def Channel.clear (c : Channel) : Bool := !c.decoder.inProgress && !(c.entry.cdUsed && c.carrier)

/-- The guard time returns to zero when CH0 is not clear (R133). -/
def State.guardWatch (s : State) : State :=
  match s.tx.state with
  | .clearing p _ w => if s.channels[(0 : ChannelNo)].clear then s else s.modTx fun t => { t with state := .clearing p 0 w }
  | .idle | .keyed .. | .listen .. => s

/-! ## Channel health -/

/-- A change of channel state (R18): the state-change counter steps, a sticky flag is set where due, CHANNEL_STATE occurs. -/
def State.setChannelState (s : State) (ch : ChannelNo) (new : ChannelState) : State :=
  let old := s.channels[ch].state
  (s.modChannel ch fun c =>
    { c with
      state := new
      counters := { c.counters with
        stateChanges := c.counters.stateChanges + 1
        wasDegraded := c.counters.wasDegraded || new == .degraded
        wasMuted := c.counters.wasMuted || new == .muted } }).occur
    .channelState (u8 ch.val ++ u8 old.code ++ u8 new.code)

/-- The channel state after a window close, the first row of R13 that matches. -/
def ChannelState.afterClose (st : ChannelState) (errors : Nat) (e : PlanEntry) : ChannelState :=
  match st with
  | .active => if e.mute ≤ errors then .muted else if e.degrade ≤ errors then .degraded else .active
  | .degraded => if e.mute ≤ errors then .muted else if errors ≤ e.recover then .active else .degraded
  | .muted => .muted
  | .off => .off

/-- Adopt the pending entry (R17). -/
def Channel.adopt (c : Channel) : Channel := { c with entry := c.pendingEntry.getD c.entry, pendingEntry := none }

/-- A window close (R13): the state by the thresholds in force during the window, the mute hold on entry to MUTED, a new window, and
the pending entry adopted (R12). -/
def State.closeWindow (s : State) (ch : ChannelNo) : State :=
  let c := s.channels[ch]
  let new := c.state.afterClose c.window.errors c.entry
  let s := if new = c.state then s else s.setChannelState ch new
  let s := if new = .muted ∧ c.state ≠ .muted then
      s.modChannel ch fun c => { c with muteHold := some (.start Config.muteHoldMs) }
    else s
  s.modChannel ch fun c => { c with window := ⟨0, 0⟩ }.adopt

/-- Step the lifetime counter of an outcome (R18). -/
def ChannelCounters.count (k : ChannelCounters) : DecodeOutcome → ChannelCounters
  | .clean => { k with clean := k.clean + 1 }
  | .corrected => { k with corrected := k.corrected + 1 }
  | .uncorrectable => { k with uncorrectable := k.uncorrectable + 1 }
  | .checkFail => { k with checkFail := k.checkFail + 1 }
  | .format => { k with format := k.format + 1 }
  | .syncLoss => { k with syncLoss := satStep 65535 k.syncLoss }

/-- Only UNCORRECTABLE and CHECK_FAIL are errors of the quality window (R12). -/
def DecodeOutcome.isError : DecodeOutcome → Bool
  | .uncorrectable | .checkFail => true
  | .clean | .corrected | .format | .syncLoss => false

/-- An attempt ends with an outcome: the decoder returns to HUNT, the outcome is counted (R18) and taken into the quality window
(R12), which closes at 64 attempts. -/
def State.endAttempt (s : State) (ch : ChannelNo) (o : DecodeOutcome) : State :=
  let s := s.modChannel ch fun c =>
    { c with
      decoder := .hunt
      recent := []
      counters := c.counters.count o
      window := ⟨c.window.attempts + 1, c.window.errors + o.isError.toNat⟩ }
  let s := if Config.windowAttempts ≤ s.channels[ch].window.attempts then s.closeWindow ch else s
  s.guardWatch

/-! ## The decoder -/

/-- The symbol clock of a channel has an edge: the stream runs, and its watch starts anew (R4). -/
def State.streamRuns (s : State) (ch : ChannelNo) : State := 
  s.modChannel ch fun c => { c with stream := some (.start Config.streamStopMs) }

/-- The sync pattern (R1, R5). -/
def syncPattern : List Nibble := [0xC, 0x3, 0x9, 0x6]

/-- One symbol arrives (R5). In HUNT it is compared, with the three before it, against the sync pattern: a match with carrier present is
a sync detection, any other symbol is remembered for the next comparison. Outside HUNT the row shows the edges of the symbol clock and
examines no symbol (log 10). -/
def State.takeSymbol (ch : ChannelNo) (s : State) (symbol : Nibble) : State :=
  let s := s.streamRuns ch
  let c := s.channels[ch]
  if c.decoder = .hunt then
    let last := c.recent ++ [symbol]
    if last = syncPattern ∧ c.carrier then
      (s.modChannel ch fun c => { c with decoder := .header c.entry.carrierRule }).guardWatch
    else s.modChannel ch fun c => { c with recent := last.drop (last.length - 3) }
  else s

/-- SYNC_DETECTION (R5): symbols that arrive in HUNT, up to a sync detection; the header's symbols come with HEADER_COMPLETE (log 10). -/
def execSyncDetection (ch : ChannelNo) (s : State) (symbols : List Nibble := syncPattern) : Host.Outcome State Fault Refusal :=
  whenRunning s fun s => symbols.foldl (State.takeSymbol ch) s

/-- The header is good: the complement is the ones' complement of L, and L lies in 14 to 30 (R6). -/
def headerGood (length complement : Byte) : Bool :=
  complement == ~~~length && 14 ≤ length.toNat && length.toNat ≤ 30

/-- HEADER_COMPLETE (R6). -/
def execHeaderComplete (ch : ChannelNo) (length complement : Byte) (s : State) : Host.Outcome State Fault Refusal :=
  whenRunning s fun s =>
    let s := s.streamRuns ch
    match s.channels[ch].decoder with
    | .header r =>
      if headerGood length complement then s.modChannel ch fun c => { c with decoder := .body r length.toNat }
      else s.endAttempt ch .format
    | .off | .hunt | .body .. | .blanked => s

/-- The kind of a body (R2); no other kind. -/
def frameKindOf (b : Byte) : Option FrameKind :=
  if b = 1 then some .reading else if b = 2 then some .alarm else if b = 3 then some .reply else none

/-- The number of symbols corrected (R3). -/
def fecCorrections : Fec → Nat
  | .noError | .uncorrectable => 0
  | .oneCorrected => 1
  | .twoCorrected => 2
  | .threeCorrected => 3

/-- Byte `i` of a body. -/
def byteAt (body : List Byte) (i : Nat) : Byte := body.getD i 0

/-- The meter ID of a body (R199). -/
def bodyMeterId (body : List Byte) : Word32 := word32 (byteAt body 1) (byteAt body 2) (byteAt body 3) (byteAt body 4)

/-- A valid meter ID is neither 0x00000000 nor 0xFFFFFFFF (R2). -/
def validMeterId (id : Word32) : Bool := id != 0 && id != 0xFFFFFFFF

/-- The outcome of a whole block, the first of R7 that applies. -/
def blockOutcome (fec : Fec) (body : List Byte) (crc : Word16) : DecodeOutcome :=
  if fec = .uncorrectable then .uncorrectable
  else if airCrc body ≠ crc then .checkFail
  else if frameKindOf (byteAt body 0) = none ∨ !validMeterId (bodyMeterId body) then .format
  else if fec = .noError then .clean else .corrected

/-- The frame handed on (R10), from the channel as the outcome has left it. The signal level is the highest sample of the attempt,
0 when none arrived (R4). -/
def frameOf (ch : ChannelNo) (c : Channel) (fec : Fec) (body : List Byte) (levels : List (BitVec 7)) (kind : FrameKind) : Frame :=
  { channel := ch, tag := c.entry.tag, fromActive := c.state == .active, corrections := fecCorrections fec,
    level := levels.foldl (fun m x => max m x.toNat) 0, kind := kind, meterId := bodyMeterId body,
    reading := word32 (byteAt body 5) (byteAt body 6) (byteAt body 7) (byteAt body 8), flags := .ofByte (byteAt body 9),
    sequence := byteAt body 10, token := if kind = .reply then some (byteAt body 11) else none }

/-- Hand a frame on to capture when the channel state after the outcome is ACTIVE or DEGRADED (R10). -/
def State.handOn (s : State) (ch : ChannelNo) (fec : Fec) (body : List Byte) (levels : List (BitVec 7)) : State :=
  let c := s.channels[ch]
  match frameKindOf (byteAt body 0), c.state with
  | some kind, .active | some kind, .degraded =>
    s.modCapture fun k => { k with handedOn := k.handedOn ++ [frameOf ch c fec body levels kind] }
  | _, _ => s

/-- BLOCK_COMPLETE (R7): the outcome, its counts, and the hand-on of a CLEAN or CORRECTED frame. -/
def execBlockComplete (ch : ChannelNo) (fec : Fec) (body : List Byte) (crc : Word16) (levels : List (BitVec 7)) (s : State) :
    Host.Outcome State Fault Refusal :=
  whenRunning s fun s =>
    let s := s.streamRuns ch
    match s.channels[ch].decoder with
    | .body _ length =>
      if body.length = length then
        let o := blockOutcome fec body crc
        let s := s.endAttempt ch o
        match o with
        | .clean | .corrected => s.handOn ch fec body levels
        | .uncorrectable | .checkFail | .format | .syncLoss => s
      else s
    | .off | .hunt | .header _ | .blanked => s

/-- CDn takes the level that means carrier present, or the other one, by the rule that governs (R4). -/
def State.setCarrier (s : State) (ch : ChannelNo) (present : Bool) : State :=
  s.modChannel ch fun c => { c with cdPin := c.rule.cdHigh == present }

/-- CARRIER_LOSS (R8): an attempt that reads CD ends SYNC_LOSS. The pin moves in every state of the part. -/
def execCarrierLoss (ch : ChannelNo) (s : State) : Host.Outcome State Fault Refusal :=
  whenRunning (s.setCarrier ch false) fun s =>
    let c := s.channels[ch]
    if c.decoder.inProgress ∧ c.rule.cdUsed then s.endAttempt ch .syncLoss else s

/-- CARRIER_PRESENT (R4, R133): for CH0 the guard time returns to zero. The pin moves in every state of the part. -/
def execCarrierPresent (ch : ChannelNo) (s : State) : Host.Outcome State Fault Refusal :=
  whenRunning (s.setCarrier ch true) State.guardWatch

/-- STREAM_STOPPED (R4, R8): no edge for 2 ms; an attempt in HEADER or BODY ends SYNC_LOSS. -/
def execStreamStopped (ch : ChannelNo) (s : State) : Host.Outcome State Fault Refusal :=
  whenRunning s fun s =>
    if s.channels[ch].stream.any (·.due) then
      let s := s.modChannel ch fun c => { c with stream := none }
      if s.channels[ch].decoder.inProgress then s.endAttempt ch .syncLoss else s
    else s

/-- MUTE_HOLD_EXPIRY (R14): DEGRADED, a fresh window, the pending entry adopted. -/
def execMuteHoldExpiry (ch : ChannelNo) (s : State) : Host.Outcome State Fault Refusal :=
  whenRunning s fun s =>
    if s.channels[ch].state = .muted ∧ s.channels[ch].muteHold.any (·.due) then
      let s := s.setChannelState ch .degraded
      (s.modChannel ch fun c => { c with muteHold := none, window := ⟨0, 0⟩ }.adopt).guardWatch
    else s

/-! ## SET_CHANNEL -/

/-- The entry a SET_CHANNEL carries, once its fields have passed (R16). -/
def planEntryOf (b : SetChannelBody) : PlanEntry :=
  { enabled := b.enabled == 1, cdUsed := b.cdUsed == 1, cdHigh := b.cdPolarity == 0, tag := b.tag.toNat,
    degrade := b.degrade.toNat, mute := b.mute.toNat, recover := b.recover.toNat }

/-- The BAD_VALUE tests of SET_CHANNEL in body order, the threshold ordering last (R16, R203). -/
def setChannelTests (b : SetChannelBody) : List (Nat × Bool) :=
  [(0, b.channel.toNat ≤ 3), (1, (boolCode b.enabled).isSome), (2, (boolCode b.cdUsed).isSome),
   (3, (polarityOf b.cdPolarity).isSome), (4, b.tag.toNat ≤ 15), (5, b.degrade.toNat ≤ 64), (6, b.mute.toNat ≤ 64),
   (7, b.recover.toNat ≤ 64), (7, b.degrade.toNat ≤ b.mute.toNat && b.recover.toNat < b.degrade.toNat)]

/-- Disable a channel (R15). -/
def State.disableChannel (s : State) (ch : ChannelNo) (e : PlanEntry) : State :=
  (s.setChannelState ch .off).modChannel ch fun c =>
    { c with entry := e, pendingEntry := none, decoder := .off, window := ⟨0, 0⟩, muteHold := none }

/-- Whether the transmitter is keyed (R134). -/
def TxState.isKeyed : TxState → Bool
  | .keyed .. => true
  | .idle | .clearing .. | .listen .. => false

/-- Enable a channel (R15): a fresh window, and HUNT, or BLANKED for CH0 while the transmitter is keyed (R9). -/
def State.enableChannel (s : State) (ch : ChannelNo) (e : PlanEntry) : State :=
  (s.setChannelState ch .active).modChannel ch fun c =>
    { c with
      entry := e, pendingEntry := none, window := ⟨0, 0⟩, muteHold := none, recent := []
      decoder := if ch = 0 ∧ s.tx.state.isKeyed then .blanked else .hunt }

/-- SET_CHANNEL (R15, R16, R17). -/
def actSetChannel (b : SetChannelBody) (s : State) : State × Answer :=
  match firstFailing (setChannelTests b) with
  | some field => refuse s (badValue field)
  | none =>
    let ch : ChannelNo := Fin.ofNat 4 b.channel.toNat
    let e := planEntryOf b
    let s := match s.channels[ch].entry.enabled, e.enabled with
      | true, false => s.disableChannel ch e
      | false, true => s.enableChannel ch e
      | true, true => s.modChannel ch fun c => { c with pendingEntry := some e }
      | false, false => s.modChannel ch fun c => { c with entry := e, pendingEntry := none }
    (s.guardWatch, .ok [])

end Sys2Proof.Machine
end

