-- ==== Sys2Proof/Machine/Check.lean ====
section
/-! DEFINITION. The check engine (05_the_reading_check.md): the check start with its snapshot, and the five stages as exact integer
arithmetic. Its completion stands in Store.lean. -/

namespace Sys2Proof.Machine

/-! ## Stages 1 and 2 -/

/-- Stage 1: a register of `d` digits shows 0 to 10^d - 1 (R95). -/
def inRange (d reading : Nat) : Bool := reading < 10 ^ d

/-- The movement and its amount, by the first row of R97 that applies. -/
def movementOf (d backTol previous reading : Nat) : Movement × Nat :=
  if previous ≤ reading then (.forward, reading - previous)
  else if 9 * 10 ^ (d - 1) ≤ previous ∧ reading < 10 ^ (d - 1) then (.wrap, reading + 10 ^ d - previous)
  else if previous - reading ≤ backTol then (.backstep, 0)
  else (.backward, previous - reading)

/-! ## Stage 3 -/

/-- The whole hours between the previous reading and the first hearing, a signed integer (R98). -/
def elapsedHours (dayPrevious hourPrevious : Nat) (t : Stamp) : Int :=
  ((t.day : Int) - dayPrevious) * 24 + (t.second / 3600 : Nat) - hourPrevious

/-- Stage 3: the hours kept, absent with NO_TIME, and whether they were clamped with LONG_GAP (R98). -/
def hoursKept (dayPrevious hourPrevious : Nat) (t : Stamp) : Option Nat × Bool :=
  if t.state = .unset then (none, false)
  else
    let h := elapsedHours dayPrevious hourPrevious t
    if h ≤ 0 then (none, false) else if 65535 < h then (some 65535, true) else (some h.toNat, false)

/-! ## Stage 4 -/

/-- The rate Q in hundredths of a register unit per day, saturated at 4,294,967,295 with RATE_SAT (R99). -/
def rateOf (d h : Nat) : Nat × Bool :=
  let q := (d * 2400 + h / 2) / h
  if 4294967295 < q then (4294967295, true) else (q, false)

/-- The ratio P in percent of the expected consumption, with NO_EXPECT (R100). -/
def ratioOf (expected q : Nat) : Nat × Bool :=
  if expected = 0 then (if q = 0 then (0, false) else (9999, true)) else (min 9999 (q * 100 / expected), false)

/-- The bands (R101). -/
structure Bands where
  low : Bool
  zero : Bool
  high : Bool
  extreme : Bool
deriving DecidableEq, Repr

/-- No band holds: stage 4 was not run (R101). -/
def Bands.none : Bands := ⟨false, false, false, false⟩

/-- Each band is tested on its own (R101). -/
def bandsOf (f : Profile) (p d h : Nat) : Bands :=
  { low := p < f.lowPct
    zero := d == 0 && f.zeroHours != 0 && decide (f.zeroHours ≤ h)
    high := f.highPct < p
    extreme := f.extremePct < p }

/-! ## Stage 5 and the result -/

/-- What the stages find (R104): the entry's own items stay with the check. -/
structure Finding where
  movement : Movement
  amount : Nat
  hours : Option Nat
  rate : Option Nat
  ratio : Option Nat
  bands : Bands
  evidence : Evidence
deriving DecidableEq, Repr

/-- Stages 3 and 4, after FORWARD, WRAP or BACKSTEP (R98 to R101), on top of the evidence found so far. -/
def Check.timed (c : Check) (movement : Movement) (amount : Nat) (found : Evidence) : Finding :=
  let (hours, longGap) := hoursKept c.static.previousDay c.static.previousHour c.entry.firstHeard
  match hours with
  | none => ⟨movement, amount, none, none, none, .none, { found with noTime := true }⟩
  | some h =>
    let (q, sat) := rateOf amount h
    let (p, noExpect) := ratioOf c.static.expected q
    ⟨movement, amount, some h, some q, some p, bandsOf c.profile p amount h,
      { found with longGap := longGap, rateSat := sat, noExpect := noExpect }⟩

/-- The five stages of a check over its snapshot (R95 to R102). -/
def Check.findings (c : Check) : Finding :=
  let reading := c.entry.best.reading.toNat
  let base := c.entry.evidence
  if !inRange c.static.digits reading then ⟨.none, 0, none, none, none, .none, { base with range := true }⟩
  else
    match c.static.previous with
    | none => ⟨.none, 0, none, none, none, .none, { base with noBase := true }⟩
    | some previous =>
      match movementOf c.static.digits c.profile.backTol previous reading with
      | (.backward, b) => ⟨.backward, b, none, none, none, .none, { base with rollback := true }⟩
      | (.wrap, d) => c.timed .wrap d { base with wrap := true }
      | (.backstep, d) => c.timed .backstep d { base with backstep := true }
      | (m, d) => c.timed m d base

/-- The conditions of R103, highest category first; NORMAL always holds. -/
def Finding.conditions (f : Finding) : List (Category × Bool) :=
  [(.range, f.evidence.range), (.rollback, f.movement == .backward), (.conflict, f.evidence.conflict),
   (.magnet, f.evidence.magnet), (.cover, f.evidence.cover), (.reverse, f.evidence.reverse), (.noBase, f.evidence.noBase),
   (.noTime, f.evidence.noTime), (.leak, f.evidence.leak), (.extreme, f.bands.extreme), (.high, f.bands.high),
   (.zero, f.bands.zero), (.low, f.bands.low), (.backstep, f.movement == .backstep), (.unconfirmed, f.evidence.unconfirmed)]

/-- The outcome category: the highest-numbered category whose condition holds (R103). -/
def Finding.category (f : Finding) : Category := ((f.conditions.find? (·.2)).map (·.1)).getD .normal

/-! ## The check start -/

/-- The static fields that stand for a stop without any; no finalised entry names such a stop (log 28). -/
def StopStatic.unwritten : StopStatic :=
  { meterId := 0, segment := 0, kindTag := 0, digits := 0, previous := none, previousDay := 0, previousHour := 0, expected := 0,
    profile := 0, pollable := false }

/-- The snapshot taken for an entry at check start (R92). -/
def State.snapshot (s : State) (e : Entry) : Check :=
  let static := ((s.route.stops[e.stop]?).bind (·.static)).getD .unwritten
  { entry := e, static := static, profile := s.route.profiles[Fin.ofNat 8 static.profile], routeNumber := s.route.number }

/-- The FINAL_WAIT entry of the lowest finalisation order (R84), the order compared as the creation order is (R74, R81). -/
def Capture.firstFinalWait (c : Capture) : Option Entry :=
  (c.heard.filter fun e => !e.gathering).foldl (init := none) fun first e =>
    match first with
    | none => some e
    | some x => if orderBefore ((e.final.map (·.order)).getD 0) ((x.final.map (·.order)).getD 0) then some e else some x

/-- The place freed in the check queue takes one FINAL_WAIT entry, which leaves the heard table (R84). -/
def Capture.refillQueue (c : Capture) : Capture :=
  match c.firstFinalWait with
  | none => c
  | some e => { c with heard := c.heard.filter (· ≠ e), queue := c.queue ++ [e] }

/-- CHECK_START (R91, R92): with the engine IDLE and an entry queued, the head entry becomes the check in flight. -/
def execCheckStart (s : State) : Host.Outcome State Fault Refusal :=
  whenRunning s fun s =>
    match s.check, s.capture.queue with
    | none, e :: rest =>
      (s.modCheck fun _ => some (s.snapshot e)).modCapture fun c => { c with queue := rest }.refillQueue
    | _, _ => s

end Sys2Proof.Machine
end

