-- ==== Sys2Proof/Machine/Clock.lean ====
section
/-! DEFINITION. The route clock (09_route_clock.md): second steps, PPS pulses, SET_CLOCK and CLOCK_SOURCE. -/

namespace Sys2Proof.Machine

/-- Causes of CLOCK_STATE (R168). -/
inductive ClockCause where
  | set | ppsFound | ppsLost | source
deriving DecidableEq, Repr

/-- Code of a clock cause (R210). -/
def ClockCause.code : ClockCause → Nat
  | .set => 0 | .ppsFound => 1 | .ppsLost => 2 | .source => 3

/-- Change the clock state; a change raises CLOCK_STATE with the day and second at the change (R168, R210). -/
def State.setClockState (s : State) (new : ClockState) (cause : ClockCause) : State :=
  if s.clock.state = new then s
  else
    (s.modClock fun c => { c with state := new }).occur .clockState
      (u8 s.clock.state.code ++ u8 new.code ++ u8 cause.code ++ u16 s.clock.day ++ timeField s.clock.second new)

/-- A second step with its rollovers (R164), taken whether 1000 ms or a pulse makes it. -/
def Clock.step (c : Clock) : Clock :=
  if c.second < 86399 then { c with sub := 0, stepDue := false, second := c.second + 1 }
  else { c with sub := 0, stepDue := false, second := 0, day := if c.day < 65535 then c.day + 1 else 0 }

/-- A pulse is aligned by the sub-second (R165). With a second step due the sub-second reads 999, and the pulse makes that step. -/
def Clock.align (c : Clock) : Clock := if 500 ≤ c.sub then c.step else { c with sub := 0, stepDue := false }

/-- PPS_PULSE (R165). -/
def execPpsPulse (s : State) : Host.Outcome State Fault Refusal :=
  whenRunning s fun s =>
    let s := s.modClock fun c => { c with watchPresent := true, sincePulse := some 0 }
    match s.clock.state, s.clock.source with
    | .unset, _ | .free, .internal => s
    | .free, .pps => (s.setClockState .locked .ppsFound).modClock Clock.align
    | .locked, _ => s.modClock Clock.align

/-- PULSE_WATCH_EXPIRY (R165): 2500 ms without a pulse; a LOCKED clock enters FREE. -/
def execPulseWatchExpiry (s : State) : Host.Outcome State Fault Refusal :=
  whenRunning s fun s =>
    if s.clock.watchPresent ∧ s.clock.sincePulse.any (Config.ppsWatchMs ≤ ·) then
      let s := s.modClock fun c => { c with watchPresent := false }
      if s.clock.state = .locked then s.setClockState .free .ppsLost else s
    else s

/-- SECOND_STEP (R164): the sub-second has reached 1000 in FREE or LOCKED. -/
def execSecondStep (s : State) : Host.Outcome State Fault Refusal :=
  whenRunning s fun s =>
    if s.clock.state ≠ .unset ∧ s.clock.stepDue then s.modClock Clock.step else s

/-- SET_CLOCK (R166). -/
def actSetClock (day : Word16) (second : Word24) (s : State) : State × Answer :=
  if 86399 < second.toNat then refuse s (badValue 1)
  else
    let s := s.modClock fun c => { c with day := day.toNat, second := second.toNat, sub := 0, stepDue := false }
    let s := s.setClockState (if s.clock.source = .pps ∧ s.clock.watchPresent then .locked else .free) .set
    (s, .ok (u8 s.clock.state.code ++ u16 s.clock.day ++ u24 s.clock.second))

/-- CLOCK_SOURCE (R167). -/
def actClockSource (source : Byte) (s : State) : State × Answer :=
  match sourceOf source with
  | none => refuse s (badValue 0)
  | some given =>
    let s := s.modClock fun c => { c with source := given }
    let s := if given = .internal ∧ s.clock.state = .locked then s.setClockState .free .source else s
    (s, .ok (u8 given.code ++ u8 s.clock.state.code))

end Sys2Proof.Machine
end

