-- ==== Sys2Proof/Machine/Poll.lean ====
section
/-! DEFINITION. The poll transmitter (07_the_poll_transmitter.md): taking, keying, the ends of a poll, and its commands. -/

namespace Sys2Proof.Machine

/-! ## The states -/

/-- The transmitter enters IDLE, with the refill scan of R128. -/
def State.txIdle (s : State) (f : Transmitter → Transmitter) : State :=
  (s.modTx fun t => { f t with state := .idle }).refillScan

/-- POLL_TAKE (R132): IDLE and not inhibited, the head entry becomes the poll in hand. -/
def execPollTake (s : State) : Host.Outcome State Fault Refusal :=
  whenRunning s fun s =>
    match s.tx.state, s.tx.inhibit, s.tx.queue with
    | .idle, false, p :: rest =>
      (s.modTx fun t => { t with state := .clearing p 0 (.start Config.clearWaitMs), queue := rest }).refillScan
    | _, _, _ => s

/-- CH0 becomes BLANKED when the transmitter keys, unless it is OFF; an attempt in progress is cut short without an outcome (R9). -/
def Decoder.blank : Decoder → Decoder
  | .off => .off
  | .hunt | .header _ | .body _ _ | .blanked => .blanked

/-- CH0 returns to HUNT when the transmitter unkeys, unless it is OFF (R9, R134). -/
def Decoder.unblank : Decoder → Decoder
  | .blanked => .hunt
  | .off => .off
  | .hunt => .hunt
  | .header r => .header r
  | .body r n => .body r n

/-- CH0 when the transmitter unkeys: from BLANKED it enters HUNT and has no symbols before it (R5, R9). -/
def Channel.unblank (c : Channel) : Channel :=
  { c with recent := if c.decoder = .blanked then [] else c.recent, decoder := c.decoder.unblank }

/-- Entry to KEYED (R134). -/
def State.key (s : State) (p : PollEntry) : State :=
  (s.modTx fun t =>
    let token := t.lastToken + 1
    { t with
      state := .keyed p token false (.start Config.burstMs), lastToken := token
      counters := { t.counters with sent := t.counters.sent + 1 } }).modChannel 0 fun c => { c with decoder := c.decoder.blank }

/-- GUARD_COMPLETE (R133): CH0 has been clear for the whole guard time. -/
def execGuardComplete (s : State) : Host.Outcome State Fault Refusal :=
  whenRunning s fun s =>
    match s.tx.state with
    | .clearing p guard _ => if Config.guardMs ≤ guard ∧ s.channels[(0 : ChannelNo)].clear then s.key p else s
    | .idle | .keyed .. | .listen .. => s

/-- CLEAR_WAIT_EXPIRY (R133): the poll returns to the tail as busy. -/
def execClearWaitExpiry (s : State) : Host.Outcome State Fault Refusal :=
  whenRunning s fun s =>
    match s.tx.state with
    | .clearing p _ wait =>
      if wait.due then
        s.txIdle fun t => { t.returnTail p with counters := { t.counters with busy := t.counters.busy + 1 } }
      else s
    | .idle | .keyed .. | .listen .. => s

/-- BURST_END (R134, R135): TXKEY falls, CH0 returns to HUNT, and the listen window starts with the length in force. -/
def execBurstEnd (s : State) : Host.Outcome State Fault Refusal :=
  whenRunning s fun s =>
    match s.tx.state with
    | .keyed p token cancelled burst =>
      if burst.due then
        (s.modTx fun t =>
          { t with state := .listen p token cancelled (.start s.route.params.listenWindow) }).modChannel 0
          Channel.unblank
      else s
    | .idle | .clearing .. | .listen .. => s

/-! ## The end of a listen window -/

/-- Reasons of POLL_FAILED (R136). -/
inductive FailReason where
  | cancelled | closed | status | limit
deriving DecidableEq, Repr

/-- Code of a fail reason (R210). -/
def FailReason.code : FailReason → Nat
  | .cancelled => 0 | .closed => 1 | .status => 2 | .limit => 3

/-- How an expired poll ends, by the first condition of R136 that applies; none when it is returned. `p` is the stop after its attempts
have stepped. -/
def State.pollEnd (s : State) (cancelled : Bool) (p : Stop) : Option FailReason :=
  if cancelled then some .cancelled
  else if s.route.state ≠ .active ∨ s.segmentState p.segment ≠ .opened then some .closed
  else if !p.status.wanted then some .status
  else if s.route.params.pollLimit ≤ p.attempts then some .limit
  else none

/-- The expiry of a listen window (R136): the attempts and "expired" step, and the poll fails or returns to the tail (R137). A route
that no longer holds the stop counts as not ACTIVE, which no reachable state shows (log 28). -/
def State.expirePoll (s : State) (e : PollEntry) (cancelled : Bool) : State :=
  let s := s.modStop e.stop fun p => { p with attempts := satStep Config.maxAttempts p.attempts }
  let s := s.modTx fun t => { t with counters := { t.counters with expired := t.counters.expired + 1 } }
  let p := (s.route.stops[e.stop]?).getD .loadDefault
  match s.pollEnd cancelled p with
  | none => s.txIdle fun t => t.returnTail e
  | some reason =>
    (s.occur .pollFailed
      (u16 e.stop ++ u32 e.meterId.toNat ++ u8 p.segment ++ u8 e.origin.code ++ u8 p.attempts ++ u8 reason.code)).txIdle fun t =>
        { t with counters := { t.counters with failed := t.counters.failed + 1 } }

/-- LISTEN_WINDOW_EXPIRY (R136). -/
def execListenWindowExpiry (s : State) : Host.Outcome State Fault Refusal :=
  whenRunning s fun s =>
    match s.tx.state with
    | .listen p _ cancelled window => if window.due then s.expirePoll p cancelled else s
    | .idle | .clearing .. | .keyed .. => s

/-! ## Commands -/

/-- WRONG_STATE where no coded state stands for the reason (R129 tests 4 and 5 with R198 and R203): both detail bytes are free values
(log 15). -/
def refuseFree (s : State) : State × Answer :=
  (s.drawFree.drawFree, .refused .wrongState [Config.freeByte s.freeUses, Config.freeByte (s.freeUses + 1)])

/-- POLL_STOP (R129). Where several conditions of test 4 fail at once the spec does not say which state the detail names; the model takes
them in the order of the sentence: pollable, segment, status (DESIGN CHOICE, log 34). -/
def actPollStop (stop : Word16) (s : State) : State × Answer :=
  let i := stop.toNat
  if s.route.state ≠ .active then refuse s (wrongRoute s)
  else
    match s.route.stops[i]? with
    | none => refuse s (badValue 0)
    | some p =>
      if !p.pollable then refuseFree s
      else if s.segmentState p.segment ≠ .opened then refuse s (wrongState 1 (s.segmentState p.segment).code)
      else if !p.status.wanted then refuse s (wrongState 2 p.status.code)
      else if s.route.params.pollLimit ≤ p.attempts then refuseFree s
      else if s.tx.names i then refuse s (.refused .already [])
      else if Config.pollCapacity ≤ s.tx.queue.length then refuse s (.refused .pollFull [])
      else (s.pushPoll (s.pollEntry i .host), .ok (u8 s.tx.queue.length ++ u8 p.attempts))

/-- Mark a poll on the air cancelled (R131). -/
def TxState.cancel : TxState → TxState
  | .idle => .idle
  | .clearing p g w => .clearing p g w
  | .keyed p token _ burst => .keyed p token true burst
  | .listen p token _ window => .listen p token true window

/-- The case of a POLL_CANCEL (R131, R198): queue entry removed 0, poll withdrawn 1, poll marked cancelled 2. -/
def Transmitter.cancelCase (t : Transmitter) (i : Nat) : Nat :=
  if t.queue.any (·.stop == i) then 0 else if t.state.onAir then 2 else 1

/-- POLL_CANCEL (R131). -/
def actPollCancel (stop : Word16) (s : State) : State × Answer :=
  let i := stop.toNat
  if s.route.state ≠ .active then refuse s (wrongRoute s)
  else
    match s.route.stops[i]? with
    | none => refuse s (badValue 0)
    | some p =>
      if !s.tx.names i then refuse s (.refused .notFound [])
      else
        let attempts := max p.attempts s.route.params.pollLimit
        let which := s.tx.cancelCase i
        let s := s.modStop i fun q => { q with attempts := attempts }
        let s := if which = 2 then s.modTx fun t => { t with state := t.state.cancel } else s.removePolls (· == i)
        (s, .ok (u8 attempts ++ u8 which))

/-- The transmitter is inhibited (R138): a poll in CLEARING returns to the head of the queue. -/
def State.inhibitTx (s : State) : State :=
  let s := s.modTx fun t => { t with inhibit := true }
  match s.tx.state with
  | .clearing p _ _ => s.txIdle fun t => t.returnHead p
  | .idle | .keyed .. | .listen .. => s

/-- TX_INHIBIT (R138). -/
def actTxInhibit (s : State) : State × Answer :=
  (if s.tx.inhibit then s else s.inhibitTx, .ok (u8 s.tx.state.code))

/-- TX_ENABLE (R138). -/
def actTxEnable (s : State) : State × Answer :=
  (s.modTx fun t => { t with inhibit := false }, .ok (u8 s.tx.state.code))

end Sys2Proof.Machine
end

