-- ==== Sys2Proof/Machine/Formats.lean ====
section
/-! DEFINITION. The record formats (R204, R205), the blocks of the upload (R206, R207) and the 17-byte stop record (R208). -/

namespace Sys2Proof.Machine

/-- A record in format 2, 49 bytes (R204), with the upload state given: that of the moment the message is formed (R205). -/
def Record.full (r : Record) (upload : UploadState) : List Byte :=
  u32 r.sequence ++ u16 r.route ++ u16 r.stop ++ u32 r.meterId.toNat ++ u8 r.segment ++ u8 (r.bestTag * 16 + r.kindTag)
    ++ u32 r.reading.toNat ++ stampBytes r.firstHeard
    ++ u8 (r.hours.isSome.toNat * 128 + r.rate.isSome.toNat * 64 + r.ratio.isSome.toNat * 32 + r.supersedes.isSome.toNat * 16
        + r.movement.code)
    ++ u32 r.amount ++ u16 (r.hours.getD 0) ++ u32 (r.rate.getD 0) ++ u16 (r.ratio.getD 0)
    ++ u8 (r.category.code.val * 16 + r.recClass.code * 4 + upload.code) ++ r.evidence.bytes ++ u16 r.copies ++ u8 r.eligible
    ++ u8 r.bestLevel ++ u8 (r.bestCorrections * 16 + r.mask.toNat) ++ u32 (r.supersedes.getD 0)

/-- A record in format 1, 30 bytes (R204). -/
def Record.compact (r : Record) (upload : UploadState) : List Byte :=
  u16 (r.kindTag * 4096 + r.stop) ++ u32 r.meterId.toNat ++ u8 r.segment ++ u32 r.reading.toNat ++ u16 r.firstHeard.day
    ++ u24 (r.firstHeard.state.code * 2 ^ 22 + r.movement.code * 2 ^ 19 + r.firstHeard.second)
    ++ u32 (r.recClass.code * 2 ^ 30 + r.amount) ++ u8 (r.category.code.val * 16 + r.bestTag) ++ u16 r.copies ++ u8 r.eligible
    ++ u8 (r.supersedes.isSome.toNat * 128 + r.bestLevel)
    ++ u8 (upload.code * 64 + r.bestCorrections * 16 + r.mask.toNat) ++ u32 (r.supersedes.getD 0)

/-- A record in the negotiated format: 1 compact, otherwise 2 (R147, R205). -/
def Record.encode (format : Nat) (r : Record) : List Byte :=
  if format = 1 then r.compact r.upload else r.full r.upload

/-- The records of a block formed from the oldest PENDING records (R207): the block size, a change of route number, and in format 2
20 records limit it. -/
def blockRecords (format size : Nat) : List Record → List Record
  | [] => []
  | r :: rest =>
    ((r :: rest).takeWhile (·.route = r.route)).take (if format = 2 then min size Config.maxFullBlock else size)

/-- The body of an UPLOAD_BLOCK (R206). -/
def uploadBlockBody (format : Nat) (number : Byte) (records : List Record) : List Byte :=
  u8 number.toNat ++ u32 ((records.head?.map (·.sequence)).getD 0) ++ u8 records.length
    ++ u16 ((records.head?.map (·.route)).getD 0) ++ (records.map (Record.encode format)).flatten

/-- A stop's static fields as the 17-byte stop record (R203, R208). -/
def StopStatic.bytes (p : StopStatic) : List Byte :=
  u32 p.meterId.toNat ++ u8 p.segment ++ u8 (p.digits * 16 + p.kindTag) ++ u32 (p.previous.getD 0)
    ++ u8 (p.previous.isSome.toNat * 128 + p.pollable.toNat * 64 + p.profile) ++ u16 p.previousDay ++ u8 p.previousHour
    ++ u24 p.expected

end Sys2Proof.Machine
end

