-- ==== Sys2Proof/Machine/DockOps.lean ====
section
/-! DEFINITION. The dock link's shared operations: the signal indication, changes of link state, departures (R151), the sending of
messages (R150), and the upload (R152 to R157). -/

namespace Sys2Proof.Machine

/-- Step dock link counters (R161). -/
def State.countDock (s : State) (f : DockCounters → DockCounters) : State :=
  s.modDock fun d => { d with counters := f d.counters }

/-- A dock message is discarded and counted (R150). -/
def State.discardDock (s : State) : State := s.countDock fun k => { k with discarded := k.discarded + 1 }

/-- The signal indication (R143). -/
def Dock.signalPresent (d : Dock) : Bool := !d.settings.detectUsed || d.dsdPin == d.settings.polarityHigh

/-- A change of link state that raises DOCK_STATE (R160). -/
def State.setLink (s : State) (new : LinkState) (cause : DockCause) : State :=
  (s.modDock fun d => { d with link := new }).occur .dockState
    (u8 s.dock.link.code ++ u8 new.code ++ u8 cause.code)

/-! ## Sending -/

/-- The part sends one message at a time; a waiting reply goes first (R150). -/
def Dock.sendNext (d : Dock) : Dock :=
  match d.sending, d.reply, d.waiting with
  | some _, _, _ => d
  | none, some m, _ => { d with sending := some ⟨.reply, m⟩, reply := none }
  | none, none, m :: rest => { d with sending := some m, waiting := rest }
  | none, none, [] => d

/-- A message of the part, with tag 0 (R150), joins those waiting to be sent. -/
def State.queueDock (s : State) (role : DockRole) (kind : Byte) (body : List Byte) : State :=
  s.modDock fun d => Dock.sendNext { d with waiting := d.waiting ++ [⟨role, ⟨kind, 0, body⟩⟩] }

/-- The end of the sending of a message of this role starts no timer (R151, R153). -/
def DockOut.stale (m : DockOut) : DockOut := { m with role := .stale }

/-- Every block message still on its way becomes stale: its block is no longer the outstanding one (R153). -/
def Dock.staleBlocks (d : Dock) : Dock :=
  let mark (m : DockOut) : DockOut := if m.role = .block then m.stale else m
  { d with sending := d.sending.map mark, waiting := d.waiting.map mark }

/-! ## Leaving a session -/

/-- What ends with the exchange or session (R147, R151): the exchange and negotiated values, the outstanding block and its timers,
held commands, messages not begun; a message begun is sent to its end and starts no timer. The bytes of a message partly received go
too: the spec does not say whether such a message counts as discarded, and the model does not count it (DESIGN CHOICE, log 40). -/
def Dock.dropSession (d : Dock) : Dock :=
  { d with
    exchange := none, format := none, blockSize := none, wanted := none, depotNumber := none, identity := none,
    outstanding := none, resend := none, nakCount := 0, held := [], reply := none, waiting := [],
    sending := d.sending.map DockOut.stale, rx := [] }

/-- Every IN_FLIGHT record returns to PENDING (R151, R155). -/
def Store.returnInFlight (k : Store) : Store :=
  { k with records := k.records.map fun r => if r.upload = .inFlight then { r with upload := .pending } else r }

/-- A load is abandoned (R31, R32): the header takes its EMPTY values, the tables and the tracker's lists are discarded. -/
def Route.abandon (r : Route) : Route :=
  { r with state := .empty, number := 0, shiftDay := 0, owner := none, loadedBy := none, stops := [], segments := [], index := none }

/-- The route book and tracker of an EMPTY route, the settings kept (R31, R35, R41). -/
def State.abandonRoute (s : State) : State := (s.modRoute Route.abandon).modTracker fun _ => .empty

/-- A DOCK-owned load in LOADING is discarded when the link leaves READY or UPLOADING (R32). -/
def State.discardDockLoad (s : State) : State :=
  if s.route.state = .loading ∧ s.route.owner = some .dock then s.abandonRoute else s

/-- What leaving the present link state does beside the change itself: from READY or UPLOADING the departure of R151, from EXCHANGE
the end of the exchange. -/
def State.leaveLink (s : State) : State :=
  match s.dock.link with
  | .ready | .uploading =>
    (((s.countDock fun k => { k with linkDown := k.linkDown + 1, wasDown := true }).modStore Store.returnInFlight).modDock
      Dock.dropSession).discardDockLoad
  | .exchange => s.modDock Dock.dropSession
  | .down | .align | .fault => s

/-- The link enters ALIGN from an aligned state (R146, R149, R156). -/
def State.enterAlign (s : State) (cause : DockCause) : State := s.leaveLink.setLink .align cause

/-- The link enters FAULT; its cause is held until it leaves (R149). -/
def State.enterFault (s : State) (cause : DockCause) : State :=
  (s.leaveLink.setLink .fault cause).modDock fun d => { d with faultCause := some cause }

/-- The link enters DOWN (R144): the consecutive exchange failure count returns to 0, and with the signal present ALIGN follows at
once. In DOWN only the count changes (R159). -/
def State.enterDown (s : State) (cause : DockCause) : State :=
  if s.dock.link = .down then s.modDock fun d => { d with failures := 0 }
  else
    let s := (s.leaveLink.setLink .down cause).modDock fun d => { d with failures := 0, watch := none, faultCause := none }
    if s.dock.signalPresent then s.setLink .align .signalUp else s

/-- An exchange failure (R149): the third in a row leads to FAULT with cause RETRIES instead of ALIGN. -/
def State.exchangeFailure (s : State) (cause : DockCause) : State :=
  let s := (s.countDock fun k => { k with exchangeFailures := k.exchangeFailures + 1 }).modDock fun d =>
    { d with failures := d.failures + 1 }
  if 3 ≤ s.dock.failures then s.enterFault .retries else s.enterAlign cause

/-- The signal indication is derived anew (R143, R144): present it lifts DOWN to ALIGN and stops the signal-loss watch; absent it
starts the watch outside DOWN. -/
def State.deriveSignal (s : State) : State :=
  if s.dock.signalPresent then
    if s.dock.link = .down then s.setLink .align .signalUp else s.modDock fun d => { d with watch := none }
  else if s.dock.link = .down ∨ s.dock.watch.isSome then s
  else s.modDock fun d => { d with watch := some (.start Config.signalLossMs) }

/-! ## Upload -/

/-- The PENDING records, oldest first (R114). -/
def Store.pendingRecords (k : Store) : List Record := k.records.filter (·.upload = .pending)

/-- The IN_FLIGHT records, oldest first (R114). -/
def Store.inFlightRecords (k : Store) : List Record := k.records.filter (·.upload = .inFlight)

/-- The fill: the records that are PENDING or IN_FLIGHT (R114). -/
def Store.fill (k : Store) : Nat := k.records.countP (·.upload ≠ .uploaded)

/-- The oldest `n` PENDING records become IN_FLIGHT (R152). -/
def markInFlight : Nat → List Record → List Record
  | 0, records => records
  | _, [] => []
  | n + 1, r :: rest =>
    if r.upload = .pending then { r with upload := .inFlight } :: markInFlight n rest else r :: markInFlight (n + 1) rest

/-- Send the UPLOAD_BLOCK of the IN_FLIGHT records (R152, R156). -/
def State.sendBlock (s : State) : State :=
  (s.countDock fun k => { k with blocksSent := k.blocksSent + 1 }).queueDock .block 0xA8
    (uploadBlockBody (s.dock.format.getD 1) s.dock.blockNumber s.store.inFlightRecords)

/-- Form a block from the oldest PENDING records and send it (R152, R207). -/
def State.formBlock (s : State) : State :=
  let records := blockRecords (s.dock.format.getD 1) (s.dock.blockSize.getD 0) s.store.pendingRecords
  let s := s.modStore fun k => { k with records := markInFlight records.length k.records }
  let s := s.modDock fun d =>
    { d with outstanding := some ⟨(records.head?.map (·.sequence)).getD 0, records.length, 1, none⟩ }
  s.sendBlock

/-- The upload start test (R152): READY, upload wanted, not suspended, and a record PENDING; the link enters UPLOADING, which raises
no DOCK_STATE (R160). -/
def State.uploadStart (s : State) : State :=
  if s.dock.link = .ready ∧ s.dock.wanted = some true ∧ !s.dock.suspended ∧ s.store.pendingRecords ≠ [] then
    (s.modDock fun d => { d with link := .uploading, runAcked := 0 }).formBlock
  else s

/-- The sequence number of the newest UPLOADED record (R154). -/
def Store.newestUploaded (k : Store) : Nat := ((k.records.filter (·.upload = .uploaded)).getLast?.map (·.sequence)).getD 0

/-- The upload ends (R154): UPLOAD_END is sent, the link enters READY without DOCK_STATE, UPLOAD_DONE is raised. -/
def State.endUpload (s : State) : State :=
  let body := u32 s.store.newestUploaded ++ u32 s.dock.runAcked
  let s := s.queueDock .uploadEnd 0xA9 body
  (s.modDock fun d => { d with link := .ready }).occur .uploadDone (body ++ u16 (s.dock.depotNumber.getD 0))

/-- Whether an acknowledgement names the outstanding block (R153, R157). -/
def Dock.answers (d : Dock) (number : Byte) : Bool := d.outstanding.isSome && number == d.blockNumber

/-- A stray acknowledgement is counted and otherwise ignored (R157). -/
def State.strayAck (s : State) : State := s.countDock fun k => { k with stray := k.stray + 1 }

/-- A BLOCK_ACK in READY or UPLOADING (R153, R157). -/
def State.takeAck (s : State) (number : Byte) : State :=
  if s.dock.answers number then
    let s := s.modStore fun k =>
      { k with records := k.records.map fun r => if r.upload = .inFlight then { r with upload := .uploaded } else r }
    let s := s.modDock fun d =>
      { d.staleBlocks with
        outstanding := none
        blockNumber := d.blockNumber + 1
        nakCount := 0
        runAcked := d.runAcked + (d.outstanding.map (·.count)).getD 0 }
    let s := s.countDock fun k => { k with acks := k.acks + 1 }
    if s.store.pendingRecords ≠ [] then s.formBlock else s.endUpload
  else s.strayAck

/-- A BLOCK_NAK in READY or UPLOADING (R155, R157). A reason other than FORMAT and STORAGE makes it malformed. -/
def State.takeNak (s : State) (number reason : Byte) : State :=
  match nakReasonOf reason with
  | none => s.discardDock
  | some why =>
    if s.dock.answers number then
      let s := s.modStore Store.returnInFlight
      let s := s.modDock fun d =>
        { d.staleBlocks with outstanding := none, lastNak := some why, nakCount := d.nakCount + 1 }
      let s := s.countDock fun k => { k with naks := k.naks + 1 }
      if 3 ≤ s.dock.nakCount then (s.modDock fun d => { d with suspended := true }).setLink .ready .suspended
      else s.modDock fun d => { d with resend := some (.start Config.resendMs) }
    else s.strayAck

/-! ## The page exchange -/

/-- The part's ABILITY page (R147, R211): formats 0x03, maximum block 32, family code and revision. -/
def abilityPageBody : List Byte := u8 0x03 ++ u8 Config.maxBlock ++ u16 Config.familyCode ++ u8 Config.revision

/-- The ROUTE page as the values stand when it is formed (R148, R211). -/
def State.routePageBody (s : State) : List Byte :=
  u16 s.route.number ++ u8 s.route.state.code ++ u16 s.store.fill
    ++ optional 4 (s.store.pendingRecords.head?.map fun r => u32 r.sequence)

/-- The highest format number that both sides support (R147): bit n − 1 stands for format n. -/
def negotiate (formats : Byte) : Option Nat :=
  if formats.getLsbD 1 then some 2 else if formats.getLsbD 0 then some 1 else none

/-- The two tests of the depot's ABILITY page, and the ROUTE page when both pass (R147). -/
def State.judgeAbility (s : State) (p : AbilityPage) : State :=
  match negotiate p.formats with
  | none => s.enterFault .noFormat
  | some format =>
    if p.maxBlock = 0 then s.enterFault .noBlock
    else
      let s := s.modDock fun d =>
        { d with
          format := some format
          blockSize := some (min Config.maxBlock p.maxBlock.toNat)
          identity := some (p.family.toNat, p.revision.toNat)
          exchange := some (.routeSending none) }
      s.queueDock .routePage 0xA1 s.routePageBody

/-- The exchange succeeds (R148): READY, block number 0, both consecutive counts 0, and the upload start test. -/
def State.completeExchange (s : State) (p : DepotPage) : State :=
  let s := s.modDock fun d =>
    { d with
      exchange := none, blockNumber := 0, failures := 0, nakCount := 0, wanted := some (p.wanted == 1)
      depotNumber := some p.depotNumber.toNat }
  (s.setLink .ready .exchanged).uploadStart

/-- The ROUTE page is being sent: from that moment the DEPOT page is taken (R148). -/
def Dock.routePageBegun (d : Dock) : Bool := d.sending.any (·.role = .routePage)

/-- A page or acknowledgement from the depot, by the link state (R147 to R150, R153, R155). In DOWN, ALIGN and FAULT none is taken. -/
def State.dockArrive (s : State) (a : DockArrival) : State :=
  match s.dock.link with
  | .down | .align | .fault => s
  | .exchange =>
    match a, s.dock.exchange with
    | .ability p, some (.abilitySending none) => s.modDock fun d => { d with exchange := some (.abilitySending (some p)) }
    | .ability p, some (.abilityWait _) => s.judgeAbility p
    | .depot p, some (.routeSending none) =>
      if (boolCode p.wanted).isSome ∧ s.dock.routePageBegun then
        s.modDock fun d => { d with exchange := some (.routeSending (some p)) }
      else s.discardDock
    | .depot p, some (.routeWait _) => if (boolCode p.wanted).isSome then s.completeExchange p else s.discardDock
    | _, _ => s.discardDock
  | .ready | .uploading =>
    match a with
    | .ack number => s.takeAck number
    | .nak number reason => s.takeNak number reason
    | .ability _ | .depot _ => s.discardDock

/-- Entry to EXCHANGE (R147): negotiated values absent, the suspended mark and last NAK reason cleared, a new error window (R146), and
the ABILITY page sent. -/
def State.enterExchange (s : State) : State :=
  let s := (s.setLink .exchange .aligned).modDock fun d =>
    { d with
      windowErrors := 0, format := none, blockSize := none, wanted := none, depotNumber := none, identity := none
      lastNak := none, suspended := false, rx := [], exchange := some (.abilitySending none) }
  s.queueDock .abilityPage 0xA0 abilityPageBody

/-! ## Van link commands on the dock link -/

/-- DOCK_RESET (R159): the reply carries the link state at its taking. -/
def actDockReset (s : State) : State × Answer := (s.enterDown .dockReset, .ok (u8 s.dock.link.code))

/-- SET_DOCK (R143): in force at once, the signal indication derived anew. -/
def actSetDock (b : SetDockBody) (s : State) : State × Answer :=
  match boolCode b.detectUsed, polarityOf b.polarity, b.threshold.toNat with
  | none, _, _ => refuse s (badValue 0)
  | some _, none, _ => refuse s (badValue 1)
  | some _, some _, 0 => refuse s (badValue 2)
  | some used, some high, n + 1 =>
    ((s.modDock fun d => { d with settings := ⟨used, high, n + 1⟩ }).deriveSignal, .ok [])

end Sys2Proof.Machine
end

