-- ==== Sys2Proof/Machine/Queries.lean ====
section
/-! DEFINITION. READ_STATUS, READ_COUNTERS and CLEAR_COUNTERS (R177), and the notice commands of the van link (R184 to R187). The
layouts of the replies follow R203 (log 17). -/

namespace Sys2Proof.Machine

/-! ## READ_STATUS -/

/-- Target ROUTE: the header (R21), the open order, and the capture status (R87). -/
def State.routeStatus (s : State) : List Byte :=
  let r := s.route
  let c := s.capture
  u8 r.state.code ++ u16 r.number ++ u16 r.shiftDay ++ u16 r.stops.length ++ u16 r.segments.length ++ u8 (ownerCode r.owner)
    ++ u16 r.writtenCount ++ listOf (s.tracker.openOrder.map u8) ++ u8 (c.heard.countP (·.final.isNone))
    ++ u8 (c.heard.countP (·.final.isSome)) ++ u8 c.queue.length ++ flagByte s.check.isSome ++ u8 c.foreign.length

/-- A channel plan entry in the order of R16. -/
def PlanEntry.bytes (e : PlanEntry) : List Byte :=
  flagByte e.enabled ++ flagByte e.cdUsed ++ u8 (polarityCode e.cdHigh) ++ u8 e.tag ++ u8 e.degrade ++ u8 e.mute ++ u8 e.recover

/-- Target CHANNEL n (R12, R17). -/
def Channel.status (c : Channel) : List Byte :=
  u8 c.state.code ++ u8 c.decoder.code ++ u8 c.window.attempts ++ u8 c.window.errors ++ c.entry.bytes
    ++ optional 7 (c.pendingEntry.map PlanEntry.bytes)

/-- A band profile in the order of R37. -/
def Profile.bytes (p : Profile) : List Byte :=
  u8 p.lowPct ++ u16 p.highPct ++ u16 p.extremePct ++ u16 p.zeroHours ++ u8 p.backTol

/-- The route parameters in the order of R38. -/
def Params.bytes (p : Params) : List Byte :=
  u8 p.confirmCount ++ u8 p.holdTime ++ u8 p.pollLimit ++ u16 p.listenWindow ++ u16 p.storeHigh ++ flagByte p.foreignReporting

/-- A disposition entry in the order of R108. -/
def Disposition.bytes (d : Disposition) : List Byte := u8 d.recClass.code ++ u8 d.report.code ++ flagByte d.recheck

/-- Target SETTINGS: the band profiles, route parameters and disposition table. -/
def Route.settingsStatus (r : Route) : List Byte :=
  r.profiles.toList.flatMap Profile.bytes ++ r.params.bytes ++ r.disposition.toList.flatMap Disposition.bytes

/-- Target STORE: the items of R123. At most 32 records are IN_FLIGHT (R147, R152, R196), so that count takes one byte (R203). -/
def State.storeStatus (s : State) : List Byte :=
  let k := s.store
  u16 k.records.length ++ u16 (k.records.countP (·.upload = .uploaded)) ++ u8 k.inFlightRecords.length
    ++ u16 k.pendingRecords.length ++ u16 k.fill ++ optional 4 (k.records.head?.map fun r => u32 r.sequence)
    ++ optional 4 (k.pendingRecords.head?.map fun r => u32 r.sequence) ++ u32 k.nextSequence ++ u16 s.route.params.storeHigh

/-- The token and the cancelled mark of the poll in hand; the token is present once it has been keyed (R140). -/
def TxState.tokenAndMark : TxState → Option Byte × Bool
  | .idle | .clearing .. => (none, false)
  | .keyed _ token cancelled _ => (some token, cancelled)
  | .listen _ token cancelled _ => (some token, cancelled)

/-- Target TRANSMITTER: the items of R140. -/
def Transmitter.status (t : Transmitter) : List Byte :=
  let (token, cancelled) := t.state.tokenAndMark
  u8 t.state.code ++ flagByte t.inhibit ++ [t.lastToken]
    ++ optional 10 (t.state.poll.map fun p =>
        u16 p.stop ++ u32 p.meterId.toNat ++ u8 p.origin.code ++ optional 1 (token.map fun b => [b]) ++ flagByte cancelled)
    ++ u8 t.queue.length ++ optional 3 (t.queue.head?.map fun p => u16 p.stop ++ u8 p.origin.code)

/-- READY or UPLOADING: the states of a session. -/
def LinkState.inSession : LinkState → Bool
  | .ready | .uploading => true
  | .down | .align | .exchange | .fault => false

/-- Target DOCK: the items of R161. The negotiated values are absent outside READY and UPLOADING. R198 gives the signal indication no
code; the model sends 1 for present and 0 for absent (DESIGN CHOICE, log 43). -/
def Dock.status (d : Dock) : List Byte :=
  let shown {α : Type} (x : Option α) : Option α := if d.link.inSession then x else none
  u8 d.link.code ++ flagByte d.signalPresent
    ++ optional 1 (if d.link = .fault then d.faultCause.map fun c => u8 c.code else none) ++ u8 d.failures
    ++ optional 1 ((shown d.format).map u8) ++ optional 1 ((shown d.blockSize).map u8)
    ++ optional 1 ((shown d.wanted).map flagByte) ++ optional 2 ((shown d.depotNumber).map u16)
    ++ optional 3 ((shown d.identity).map fun i => u16 i.1 ++ u8 i.2) ++ [d.blockNumber]
    ++ optional 6 (d.outstanding.map fun b => u32 b.first ++ u8 b.count ++ u8 b.sends) ++ flagByte d.resend.isSome
    ++ u8 d.nakCount ++ optional 1 (d.lastNak.map fun n => u8 n.code) ++ flagByte d.suspended
    ++ flagByte d.settings.detectUsed ++ u8 (polarityCode d.settings.polarityHigh) ++ u8 d.settings.threshold

/-- Target CLOCK: the items of R163. -/
def Clock.status (c : Clock) : List Byte :=
  u8 c.state.code ++ u16 c.day ++ u24 c.second ++ u16 c.sub ++ u8 c.source.code ++ flagByte c.watchPresent
    ++ optional 2 (c.sincePulse.map u16)

/-- One cause of target NOTICES. -/
def Notice.status (n : Notice) (c : Cause) : List Byte :=
  flagByte n.pending ++ flagByte n.announced ++ flagByte n.masked ++ u16 n.count ++ optional c.detailWidth n.detail

/-- Target NOTICES: every cause, the ATTN mode and the outbound queue's length. -/
def State.noticeStatus (s : State) : List Byte :=
  (Cause.all.flatMap fun c => (s.notice c).status c) ++ u8 s.van.attnMode.code ++ u8 s.van.outbound.length

/-- READ_STATUS (R177). CAPTURE and VAN are no targets of it. -/
def actReadStatus (target : Byte) (s : State) : State × Answer :=
  match targetOf target with
  | some .route => (s, .ok s.routeStatus)
  | some (.channel n) => (s, .ok s.channels[n].status)
  | some .settings => (s, .ok s.route.settingsStatus)
  | some .store => (s, .ok s.storeStatus)
  | some .transmitter => (s, .ok s.tx.status)
  | some .dock => (s, .ok s.dock.status)
  | some .clock => (s, .ok s.clock.status)
  | some .notices => (s, .ok s.noticeStatus)
  | some .capture | some .van | none => refuse s (badValue 0)

/-! ## READ_COUNTERS and CLEAR_COUNTERS -/

/-- A 32-bit counter. -/
def counter32 (w : Word32) : List Byte := u32 w.toNat

/-- The counters and flags of a channel (R18). -/
def ChannelCounters.bytes (k : ChannelCounters) : List Byte :=
  counter32 k.clean ++ counter32 k.corrected ++ counter32 k.uncorrectable ++ counter32 k.checkFail ++ counter32 k.format
    ++ u16 k.syncLoss ++ [k.stateChanges] ++ flagByte k.wasDegraded ++ flagByte k.wasMuted

/-- The capture counters (R87). -/
def CaptureCounters.bytes (k : CaptureCounters) : List Byte :=
  counter32 k.noRoute ++ counter32 k.foreign ++ counter32 k.skipped ++ counter32 k.duplicate ++ counter32 k.lateCopy
    ++ counter32 k.overflow ++ counter32 k.beyondLimit ++ counter32 k.evictions

/-- The transmitter counters (R140). -/
def TxCounters.bytes (k : TxCounters) : List Byte :=
  counter32 k.sent ++ counter32 k.satisfied ++ counter32 k.expired ++ counter32 k.failed ++ counter32 k.busy

/-- The dock link counters (R161). -/
def DockCounters.bytes (k : DockCounters) : List Byte :=
  [k.linkDown] ++ flagByte k.wasDown ++ u16 k.symbolErrors ++ counter32 k.exchangeFailures ++ counter32 k.blocksSent
    ++ counter32 k.resends ++ counter32 k.acks ++ counter32 k.naks ++ counter32 k.stray ++ counter32 k.discarded

/-- The van link counters (R186). -/
def VanCounters.bytes (k : VanCounters) : List Byte :=
  counter32 k.badLength ++ counter32 k.incomplete ++ counter32 k.badCrc ++ counter32 k.unknownKind ++ counter32 k.holdFull
    ++ counter32 k.taken ++ u16 k.reportsLost

/-- READ_COUNTERS (R177). -/
def actReadCounters (target : Byte) (s : State) : State × Answer :=
  match targetOf target with
  | some (.channel n) => (s, .ok s.channels[n].counters.bytes)
  | some .capture => (s, .ok s.capture.counters.bytes)
  | some .store =>
    (s, .ok (counter32 s.store.appends ++ counter32 s.store.reclaims ++ counter32 s.store.drops))
  | some .transmitter => (s, .ok s.tx.counters.bytes)
  | some .dock => (s, .ok s.dock.counters.bytes)
  | some .van => (s, .ok s.van.counters.bytes)
  | some .route | some .settings | some .clock | some .notices | none => refuse s (badValue 0)

/-- A channel's counters after a clear: a sticky flag is set again when the channel is in its state (R19). -/
def ChannelCounters.cleared (st : ChannelState) : ChannelCounters :=
  { ChannelCounters.zero with wasDegraded := st == .degraded, wasMuted := st == .muted }

/-- The transmitter's counters after a clear: polls sent is 1 while a poll is KEYED or LISTEN (R140). -/
def TxCounters.cleared (st : TxState) : TxCounters := { TxCounters.zero with sent := if st.onAir then 1 else 0 }

/-- CLEAR_COUNTERS (R177, R19, R87, R123, R140, R161, R186). -/
def actClearCounters (target : Byte) (s : State) : State × Answer :=
  match targetOf target with
  | some (.channel n) => (s.modChannel n fun c => { c with counters := .cleared c.state }, .ok [])
  | some .capture => (s.modCapture fun c => { c with counters := .zero }, .ok [])
  | some .store => (s.modStore fun k => { k with appends := 0, reclaims := 0, drops := 0 }, .ok [])
  | some .transmitter => (s.modTx fun t => { t with counters := .cleared t.state }, .ok [])
  | some .dock => (s.modDock fun d => { d with counters := .zero }, .ok [])
  | some .van => (s.modVan fun v => { v with counters := .zero }, .ok [])
  | some .route | some .settings | some .clock | some .notices | none => refuse s (badValue 0)

/-! ## Notices -/

/-- The causes that a received set names, in code order. -/
def causesOf (set : Word16) : List Cause := Cause.all.filter (namesCause set)

/-- ACK_NOTICE (R184): the named causes that are pending are cleared; the reply carries, for each named one, the count it held. -/
def actAckNotice (causes : Word16) (s : State) : State × Answer :=
  let named := causesOf causes
  (named.foldl (fun s c => s.modNotice c fun n => if n.pending then .clear n.masked else n) s, .ok (listOf (named.map fun c => u16 (s.notice c).count)))

/-- SET_NOTICE_MASK (R185): the whole mask is replaced. The reply carries the mask and the causes announced by the write: those due,
in code order, for which a place is left after the reply (R183). -/
def actSetNoticeMask (causes : Word16) (s : State) : State × Answer :=
  let masked := Cause.all.foldl (fun s c => s.modNotice c fun n => { n with masked := namesCause causes c }) s
  let announced := (Cause.all.filter fun c => (masked.notice c).due).take (Config.outboundCapacity - 1 - s.van.outbound.length)
  (masked, .ok (causeSet (causesOf causes) ++ causeSet announced))

/-- SET_ATTN_MODE (R187): a pulse under way and pulses owed are given up at a change. -/
def actSetAttnMode (mode : Byte) (s : State) : State × Answer :=
  match attnModeOf mode with
  | none => refuse s (badValue 0)
  | some given =>
    (if s.van.attnMode = given then s
      else s.modVan fun v => { v with attnMode := given, attnPhase := .rest, attnOwed := 0 },
      .ok (u8 given.code))

end Sys2Proof.Machine
end

