-- ==== Sys2Proof/Machine/RouteBook.lean ====
section
/-! DEFINITION. The commands of the route book (02_the_route_book.md): loads, activation, retirement, clearing, READ_STOP, band
profiles and route parameters. -/

namespace Sys2Proof.Machine

/-! ## Loading -/

/-- LOAD_OWNED for a load command from the link that does not own the load in progress (R22, R23 test 2). -/
def State.notOwner (s : State) (link : Link) : Bool := s.route.state == .loading && s.route.owner != some link

/-- A load accepted in EMPTY: the header from the message, every stop and segment at its load default (R24). -/
def State.beginLoad (s : State) (link : Link) (b : LoadBeginBody) : State :=
  (s.modRoute fun r =>
    { r with
      state := .loading, number := b.route.toNat, shiftDay := b.shiftDay.toNat, owner := some link, loadedBy := some link
      stops := List.replicate b.stops.toNat .loadDefault, segments := List.replicate b.segments.toNat .loadDefault
      index := none }).modTracker fun _ => .empty

/-- LOAD_BEGIN (R23, R24). -/
def actLoadBegin (link : Link) (b : LoadBeginBody) (s : State) : State × Answer :=
  if s.notOwner link then refuse s (loadOwned s)
  else if s.route.state ≠ .empty then refuse s (wrongRoute s)
  else
    match firstFailing [(2, 1 ≤ b.stops.toNat && decide (b.stops.toNat ≤ Config.maxStops)),
        (3, 1 ≤ b.segments.toNat && decide (b.segments.toNat ≤ Config.maxSegments))] with
    | some field => refuse s (badValue field)
    | none => (s.beginLoad link b, .ok (u16 b.route.toNat))

/-- The static fields that a stop record gives (R25, R208). -/
def staticOf (r : StopRecord) : StopStatic :=
  { meterId := r.meterId, segment := r.segment.toNat, kindTag := r.kindTag.toNat, digits := r.digits.toNat,
    previous := if r.previousPresent then some r.previous.toNat else none, previousDay := r.previousDay.toNat,
    previousHour := r.previousHour.toNat, expected := r.expected.toNat, profile := r.profile.toNat, pollable := r.pollable }

/-- The tests of one stop record at its stop index, in the order of R209. -/
def Route.recordTests (r : Route) (i : Nat) (p : StopRecord) : List (Nat × Bool) :=
  [(0, decide (i < r.stops.length)), (1, p.meterId != 0 && p.meterId != 0xFFFFFFFF),
   (2, decide (p.segment.toNat < r.segments.length)), (3, 4 ≤ p.digits.toNat && p.digits.toNat ≤ 9),
   (4, !p.previousPresent || decide (p.previous.toNat < 10 ^ p.digits.toNat)), (5, decide (p.previousDay.toNat ≤ r.shiftDay)),
   (6, p.previousHour.toNat ≤ 23)]

/-- The position of the first offending record and its first offending field (R25, R209). -/
def Route.firstOffence (r : Route) (first : Nat) : Nat → List StopRecord → Option (Nat × Nat)
  | _, [] => none
  | k, p :: rest =>
    match firstFailing (r.recordTests (first + k) p) with
    | some field => some (k, field)
    | none => r.firstOffence first (k + 1) rest

/-- Write stop records to consecutive indexes from the first (R26). -/
def State.writeStops (s : State) : Nat → List StopRecord → State
  | _, [] => s
  | i, p :: rest => (s.modStop i fun q => { q with static := some (staticOf p) }).writeStops (i + 1) rest

/-- LOAD_STOPS (R23, R25, R26). -/
def actLoadStops (link : Link) (first : Word16) (records : List StopRecord) (s : State) : State × Answer :=
  if s.notOwner link then refuse s (loadOwned s)
  else if s.route.state ≠ .loading then refuse s (wrongRoute s)
  else
    match s.route.firstOffence first.toNat 0 records with
    | some (position, field) => refuse s (.refused .badValue (u8 position ++ u8 field))
    | none =>
      let s := s.writeStops first.toNat records
      (s, .ok (u16 s.route.writtenCount))

/-- LOAD_SEGMENT (R23, R27). -/
def actLoadSegment (link : Link) (b : LoadSegmentBody) (s : State) : State × Answer :=
  if s.notOwner link then refuse s (loadOwned s)
  else if s.route.state ≠ .loading then refuse s (wrongRoute s)
  else
    let limit := b.dwellLimit.toNat
    match firstFailing [(0, decide (b.segment.toNat < s.route.segments.length)),
        (1, limit == 0 || (10 ≤ limit && limit ≤ 3600))], dwellModeOf b.dwellMode with
    | some field, _ => refuse s (badValue field)
    | none, none => refuse s (badValue 2)
    | none, some mode =>
      (s.modSegment b.segment.toNat fun g => { g with dwellLimit := limit, dwellMode := mode }, .ok [])

/-- The lowest stop index without a written mark (R28). -/
def Route.firstUnwritten (r : Route) : Option Nat := r.stops.findIdx? (·.static.isNone)

/-- The lowest stop index whose meter ID equals that of a stop with a lower index, with the lowest such lower index (R28). `seen`
holds the meter IDs of the lower indexes in order. -/
def firstDuplicate (seen : List Word32) : List Word32 → Option (Nat × Nat)
  | [] => none
  | id :: rest =>
    match seen.findIdx? (· == id) with
    | some earlier => some (seen.length, earlier)
    | none => firstDuplicate (seen ++ [id]) rest

/-- LOAD_END (R23, R28, R29). -/
def actLoadEnd (link : Link) (s : State) : State × Answer :=
  if s.notOwner link then refuse s (loadOwned s)
  else if s.route.state ≠ .loading then refuse s (wrongRoute s)
  else
    match s.route.firstUnwritten, firstDuplicate [] (s.route.stops.map Stop.meterId) with
    | some i, _ => refuse s (.refused .count (u16 i ++ u16 s.route.writtenCount))
    | none, some (later, earlier) => refuse s (.refused .dupId (u16 later ++ u16 earlier))
    | none, none => (s.modRoute fun r => { r with state := .activating, owner := none }, .ok [])

/-- LOAD_ABORT (R31): from the van link whoever the owner is. -/
def actLoadAbort (link : Link) (s : State) : State × Answer :=
  if link = .dock ∧ s.notOwner .dock then refuse s (loadOwned s)
  else if s.route.state ≠ .loading then refuse s (wrongRoute s)
  else (s.abandonRoute, .ok [])

/-! ## Activation -/

/-- The meter index of the stop table: one entry for each stop (R33). -/
def Route.buildIndex (r : Route) : List (Word32 × Nat) := r.stops.mapIdx fun i p => (p.meterId, i)

/-- A stop at activation: UNREAD (R30). -/
def Stop.activated (p : Stop) : Stop := { p with status := .unread, prior := none }

/-- A segment at activation: its stop count by membership, all of it unread, PENDING (R30). -/
def Route.activatedSegment (r : Route) (n : Nat) (g : Segment) : Segment :=
  let count := r.stops.countP (·.segment == n)
  { g with state := .pending, stopCount := count, counts := { unread := count, heard := 0, recheck := 0, read := 0, flagged := 0,
                                                              missed := 0, skipped := 0 } }

/-- The route at activation (R30). -/
def Route.activate (r : Route) : Route :=
  { r with
    state := .active
    loadedBy := none
    stops := r.stops.map Stop.activated
    segments := r.segments.mapIdx r.activatedSegment
    index := some r.buildIndex }

/-- The build completes (R30, R68): the route is ACTIVE, the foreign list is emptied, LOAD_DONE is raised. -/
def State.activateRoute (s : State) : State :=
  let detail := u16 s.route.number ++ u16 s.route.stops.length ++ u8 (ownerCode s.route.loadedBy)
  ((s.modRoute Route.activate).modCapture fun c => { c with foreign := [] }).occur .loadDone detail

/-- INDEX_BUILD_COMPLETE (R30). -/
def execIndexBuildComplete (s : State) : Host.Outcome State Fault Refusal :=
  whenRunning s fun s => if s.route.state = .activating then s.activateRoute else s

/-! ## Retiring and clearing -/

/-- RETIRE_ROUTE accepted (R34): the OPEN segments are closed in open order, the remaining GATHERING entries finalised oldest first,
the poll queue emptied, the table RETIRED. -/
def State.retire (s : State) : State :=
  let s := s.tracker.openOrder.foldl (fun s n => s.closeRule n .retire) s
  let s := s.finaliseAll s.capture.gatheringByAge
  let s := s.removePolls fun _ => true
  s.modRoute fun r => { r with state := .retired }

/-- RETIRE_ROUTE (R34). -/
def actRetireRoute (s : State) : State × Answer :=
  if s.route.state ≠ .active then refuse s (wrongRoute s) else (s.retire, .ok [])

/-- A heard entry, check queue entry or check in flight remains (R35). -/
def State.readingsInHand (s : State) : Bool :=
  !s.capture.heard.isEmpty || !s.capture.queue.isEmpty || s.check.isSome

/-- CLEAR_ROUTE (R35). Where readings are in hand and a poll is on the air at once, the spec does not say which of the two the detail
names; the model names readings in hand (DESIGN CHOICE, log 34). -/
def actClearRoute (s : State) : State × Answer :=
  if s.route.state ≠ .retired then refuse s (wrongRoute s)
  else if s.readingsInHand then refuse s (wrongState 4 0)
  else if s.tx.state.onAir then refuse s (wrongState 3 s.tx.state.code)
  else (s.abandonRoute, .ok [])

/-! ## READ_STOP -/

/-- The summary of a heard entry (R88): `place` is its code and `position` its place in the check queue. The spec gives the channel mask
and the flag union no form in a reply; the model sends one byte each, bit n for channel n and the flag bits of the air frame's byte 9
(DESIGN CHOICE, log 17). -/
def Entry.summary (e : Entry) (place : Nat) (position : Option Nat) : List Byte :=
  u8 place ++ optional 1 (position.map u8) ++ u16 e.copies ++ u8 e.eligible ++ u8 e.mask.toNat ++ e.union.bytes
    ++ flagByte e.alarm ++ flagByte e.conflict ++ flagByte e.polled ++ flagByte e.followup ++ u32 e.best.reading.toNat
    ++ u8 e.best.sequence.toNat ++ stampBytes e.firstHeard ++ stampBytes e.lastHeard
    ++ optional 1 (e.final.map fun f => flagByte (!f.confirmed))

/-- Bytes of a summary of the reading in hand. -/
def summaryWidth : Nat := 29

/-- The summary of the reading in hand for a stop (R88): GATHERING or FINAL_WAIT in the heard table, QUEUED, or CHECKING. -/
def State.readingSummary (s : State) (i : Nat) : Option (List Byte) :=
  match s.capture.heard.find? (·.stop == i), s.capture.queue.findIdx? (·.stop == i), s.check with
  | some e, _, _ => some (e.summary (if e.gathering then 0 else 1) none)
  | none, some k, _ => (s.capture.queue[k]?).map fun e => e.summary 2 (some k)
  | none, none, some c => if c.entry.stop = i then some (c.entry.summary 3 none) else none
  | none, none, none => none

/-- The queue entry of a stop: its position from the head and its origin (R139). -/
def Transmitter.queuePlace (t : Transmitter) (i : Nat) : Option (List Byte) :=
  match t.queue.findIdx? (·.stop == i) with
  | none => none
  | some k => (t.queue[k]?).map fun p => u8 k ++ u8 p.origin.code

/-- The transmitter state that holds the poll of a stop (R139). -/
def Transmitter.inHandState (t : Transmitter) (i : Nat) : Option (List Byte) :=
  if t.state.poll.any (·.stop == i) then some (u8 t.state.code) else none

/-- The reply to READ_STOP: the stop record in the order of R36, then the items of R139, then the summary of R88 (log 17). -/
def State.stopReply (s : State) (i : Nat) (p : Stop) : List Byte :=
  optional 17 (p.static.map StopStatic.bytes) ++ flagByte p.static.isSome ++ u8 p.status.code
    ++ optional 1 (if p.status = .heard then p.prior.map fun q => u8 q.code else none) ++ u8 p.attempts ++ u8 p.recordCount
    ++ optional 8 (if 0 < p.recordCount then
        p.latest.map fun l => u32 l.sequence ++ u8 l.recClass.code ++ l.evidence.bytes else none)
    ++ optional 2 (s.tx.queuePlace i) ++ optional 1 (s.tx.inHandState i)
    ++ optional summaryWidth (if p.status = .heard then s.readingSummary i else none)

/-- READ_STOP (R36): form 0 names a stop index, form 1 a meter ID. -/
def actReadStop (form : Byte) (key : Word32) (s : State) : State × Answer :=
  if form = 0 then
    if s.route.state = .empty then refuse s (wrongRoute s)
    else
      match s.route.stops[key.toNat]? with
      | none => refuse s (badValue 1)
      | some p => (s, .ok (s.stopReply key.toNat p))
  else if form = 1 then
    if s.route.state ≠ .active then refuse s (wrongRoute s)
    else
      match ((s.route.index.getD []).find? (·.1 == key)).bind fun e => (s.route.stops[e.2]?).map fun p => (e.2, p) with
      | none => refuse s (.refused .notFound [])
      | some (i, p) => (s, .ok (s.stopReply i p))
  else refuse s (badValue 0)

/-! ## Settings -/

/-- The band profile a SET_PROFILE carries (R37). -/
def profileOf (b : SetProfileBody) : Profile :=
  ⟨b.lowPct.toNat, b.highPct.toNat, b.extremePct.toNat, b.zeroHours.toNat, b.backTol.toNat⟩

/-- The BAD_VALUE tests of SET_PROFILE: ranges in body order, then the orderings, each named by its later field (R37, R203). -/
def setProfileTests (b : SetProfileBody) : List (Nat × Bool) :=
  [(0, b.profile.toNat ≤ 7), (2, b.highPct.toNat ≤ 9999), (3, b.extremePct.toNat ≤ 9999),
   (2, b.lowPct.toNat ≤ b.highPct.toNat), (3, b.highPct.toNat ≤ b.extremePct.toNat)]

/-- SET_PROFILE (R37, R40). The spec puts R40's limits before the field tests for SET_DISPOSITION alone (R109); the model does the same
here (DESIGN CHOICE, log 35). -/
def actSetProfile (link : Link) (b : SetProfileBody) (s : State) : State × Answer :=
  match s.settingsLimit link with
  | some a => refuse s a
  | none =>
    match firstFailing (setProfileTests b) with
    | some field => refuse s (badValue field)
    | none =>
      (s.modRoute fun r => { r with profiles := r.profiles.set (Fin.ofNat 8 b.profile.toNat) (profileOf b) }, .ok [])

/-- The parameters a SET_ROUTE_PARAMS carries (R38). -/
def paramsOf (b : SetRouteParamsBody) : Params :=
  { confirmCount := b.confirmCount.toNat, holdTime := b.holdTime.toNat, pollLimit := b.pollLimit.toNat,
    listenWindow := b.listenWindow.toNat, storeHigh := b.storeHigh.toNat, foreignReporting := b.foreignReporting == 1 }

/-- The BAD_VALUE tests of SET_ROUTE_PARAMS (R38). -/
def setRouteParamsTests (b : SetRouteParamsBody) : List (Nat × Bool) :=
  [(0, 1 ≤ b.confirmCount.toNat && b.confirmCount.toNat ≤ 8), (1, 2 ≤ b.holdTime.toNat && b.holdTime.toNat ≤ 60),
   (2, 1 ≤ b.pollLimit.toNat && b.pollLimit.toNat ≤ 7), (3, 50 ≤ b.listenWindow.toNat && b.listenWindow.toNat ≤ 2000),
   (4, 1 ≤ b.storeHigh.toNat && b.storeHigh.toNat ≤ 8192), (5, (boolCode b.foreignReporting).isSome)]

/-- The stop's poll attempts are not below a poll limit. -/
def State.attemptsReach (s : State) (limit i : Nat) : Bool := (s.route.stops[i]?).any fun p => decide (limit ≤ p.attempts)

/-- An accepted SET_ROUTE_PARAMS (R39): a lowered poll limit removes queue entries and withdraws a poll in CLEARING (R130); a refill
scan follows in any case (R128). -/
def State.setParams (s : State) (q : Params) : State :=
  let lowered := decide (q.pollLimit < s.route.params.pollLimit)
  let s := s.modRoute fun r => { r with params := q }
  (if lowered then s.dropPolls (s.attemptsReach q.pollLimit) else s).refillScan

/-- SET_ROUTE_PARAMS (R38 to R40). R40's limits come before the field tests, as in SET_PROFILE (DESIGN CHOICE, log 35). -/
def actSetRouteParams (link : Link) (b : SetRouteParamsBody) (s : State) : State × Answer :=
  match s.settingsLimit link with
  | some a => refuse s a
  | none =>
    match firstFailing (setRouteParamsTests b) with
    | some field => refuse s (badValue field)
    | none => (s.setParams (paramsOf b), .ok [])

end Sys2Proof.Machine
end

