-- ==== Sys2Proof/Machine/Segments.lean ====
section
/-! DEFINITION. The commands and the timer of the route tracker (03_segments_stop_status_and_the_revisit_list.md). -/

namespace Sys2Proof.Machine

/-! ## Segments -/

/-- The position of a segment in the open order (R47). -/
def Tracker.position (t : Tracker) (n : Nat) : Nat := t.openOrder.idxOf n

/-- The reply to OPEN_SEGMENT: state, position in the open order, and the counters after the open (R47). -/
def State.openReply (s : State) (n : Nat) : List Byte :=
  match s.route.segments[n]? with
  | none => []
  | some g => u8 g.state.code ++ u8 (s.tracker.position n) ++ g.counterBytes

/-- A PENDING or CLOSED segment enters OPEN, with a refill scan (R47, R49). -/
def State.openSegment (s : State) (n : Nat) : State :=
  let s := s.modSegment n fun g => { g with state := .opened, dwellElapsed := 0 }
  (s.modTracker fun t => { t with openOrder := t.openOrder ++ [n] }).refillScan

/-- OPEN_SEGMENT (R47 to R49). -/
def actOpenSegment (segment : Byte) (s : State) : State × Answer :=
  let n := segment.toNat
  if s.route.state ≠ .active then refuse s (wrongRoute s)
  else
    match s.route.segments[n]? with
    | none => refuse s (badValue 0)
    | some g =>
      if g.state = .opened then
        let s := s.modSegment n fun g => { g with dwellElapsed := 0 }
        (s, .ok (s.openReply n))
      else if Config.openCapacity ≤ s.tracker.openOrder.length then
        refuse s (.refused .openLimit (s.tracker.openOrder.flatMap u8))
      else
        let s := s.openSegment n
        (s, .ok (s.openReply n))

/-- CLOSE_SEGMENT (R50). The reply carries the number of stops made MISSED: those UNREAD before the close, which step 1 of the close
rule leaves as they are. -/
def actCloseSegment (segment : Byte) (s : State) : State × Answer :=
  let n := segment.toNat
  if s.route.state ≠ .active then refuse s (wrongRoute s)
  else
    match s.route.segments[n]? with
    | none => refuse s (badValue 0)
    | some g =>
      if g.state ≠ .opened then refuse s (wrongState 1 g.state.code)
      else
        let missed := (s.stopsOf n .unread).length
        let s := s.closeRule n .command
        (s, .ok (((s.route.segments[n]?).map Segment.counterBytes).getD [] ++ u16 missed))

/-- The dwell timer of a segment runs while it is OPEN with a limit other than 0 (R55). -/
def Segment.dwellRuns (g : Segment) : Bool := g.state == .opened && g.dwellLimit != 0

/-- The dwell timer has reached its limit, in milliseconds (R55). -/
def Segment.dwellDue (g : Segment) : Bool := g.dwellRuns && decide (1000 * g.dwellLimit ≤ g.dwellElapsed)

/-- The expiry of a dwell timer: SEGMENT_DWELL, then the close with cause DWELL in mode CLOSE (R56), or the restart in mode WARN
(R57). SEGMENT_DWELL is announced before SEGMENT_CLOSED. -/
def State.dwellExpiry (s : State) (n : Nat) (mode : DwellMode) : State :=
  let s := s.occur .segmentDwell (u8 n ++ u8 mode.code)
  match mode with
  | .close => (s.closeRule n .dwell).announceList [.segmentDwell, .segmentClosed]
  | .warn => s.modSegment n fun g => { g with dwellElapsed := 0 }

/-- DWELL_TIMER_EXPIRY (R56, R57). -/
def execDwellTimerExpiry (segment : Nat) (s : State) : Host.Outcome State Fault Refusal :=
  whenRunning s fun s =>
    match s.route.segments[segment]? with
    | some g => if s.route.state = .active ∧ g.dwellDue then s.dwellExpiry segment g.dwellMode else s
    | none => s

/-! ## Stops -/

/-- SKIP_STOP accepted (R58). -/
def State.skipStop (s : State) (i : Nat) (p : Stop) : State :=
  let before := s.outstanding p.segment
  let s := s.setStatus i .skipped none
  let s := if p.status = .missed then s.leaveRevisit i else s
  (s.removePolls (· == i)).noteComplete p.segment before

/-- SKIP_STOP (R58). -/
def actSkipStop (stop : Word16) (s : State) : State × Answer :=
  let i := stop.toNat
  if s.route.state ≠ .active then refuse s (wrongRoute s)
  else
    match s.route.stops[i]? with
    | none => refuse s (badValue 0)
    | some p =>
      match p.status with
      | .heard | .read | .flagged | .recheck => refuse s (wrongState 2 p.status.code)
      | .skipped => refuse s (.refused .already [])
      | .unread | .missed => (s.skipStop i p, .ok (u8 Status.skipped.code ++ u8 p.segment))

/-- UNSKIP_STOP accepted (R59), with its refill scan (R128). -/
def State.unskipStop (s : State) (i : Nat) (p : Stop) : State :=
  (if s.segmentState p.segment = .closed then (s.setStatus i .missed none).joinRevisit i
   else s.setStatus i .unread none).refillScan

/-- UNSKIP_STOP (R59). -/
def actUnskipStop (stop : Word16) (s : State) : State × Answer :=
  let i := stop.toNat
  if s.route.state ≠ .active then refuse s (wrongRoute s)
  else
    match s.route.stops[i]? with
    | none => refuse s (badValue 0)
    | some p =>
      if p.status ≠ .skipped then refuse s (wrongState 2 p.status.code)
      else
        let new : Status := if s.segmentState p.segment = .closed then .missed else .unread
        (s.unskipStop i p, .ok (u8 new.code))

/-! ## Reading the tracker -/

/-- The route-table states in which READ_REVISIT and READ_SEGMENT are answered (R61, R62). -/
def RouteState.readable : RouteState → Bool
  | .active | .retired => true
  | .empty | .loading | .activating => false

/-- One item of a READ_REVISIT reply (R61). -/
def State.revisitItem (s : State) (position i : Nat) : List Byte :=
  match s.route.stops[i]? with
  | none => []
  | some p => u16 position ++ u16 i ++ u32 p.meterId.toNat ++ u8 p.segment ++ u8 p.status.code

/-- READ_REVISIT (R61). -/
def actReadRevisit (first : Word16) (count : Byte) (s : State) : State × Answer :=
  let list := s.tracker.revisit
  if !s.route.state.readable then refuse s (wrongRoute s)
  else
    match firstFailing [(0, first.toNat ≤ 4095), (1, 1 ≤ count.toNat && count.toNat ≤ 64)] with
    | some field => refuse s (badValue field)
    | none =>
      if list.length ≤ first.toNat then refuse s (.refused .notFound (u16 list.length))
      else
        let items := (list.drop first.toNat).take count.toNat
        (s, .ok (u16 list.length ++ listOf (items.mapIdx fun k i => s.revisitItem (first.toNat + k) i)))

/-- The reply to READ_SEGMENT (R46, R62): for an OPEN segment also its position in the open order and its outstanding count. -/
def State.segmentReply (s : State) (n : Nat) (g : Segment) : List Byte :=
  let isOpen := g.state == .opened
  u8 g.state.code ++ u16 g.stopCount ++ u16 g.dwellLimit ++ u8 g.dwellMode.code ++ u16 (g.dwellElapsed / 1000) ++ g.counterBytes
    ++ optional 1 (if isOpen then some (u8 (s.tracker.position n)) else none)
    ++ optional 2 (if isOpen then some (u16 g.counts.outstanding) else none)

/-- READ_SEGMENT (R62). -/
def actReadSegment (segment : Byte) (s : State) : State × Answer :=
  if !s.route.state.readable then refuse s (wrongRoute s)
  else
    match s.route.segments[segment.toNat]? with
    | none => refuse s (badValue 0)
    | some g => (s, .ok (s.segmentReply segment.toNat g))

end Sys2Proof.Machine
end

