-- ==== Sys2Proof/Machine/Store.lean ====
section
/-! DEFINITION. Disposition and the record store (06_disposition_and_the_record_store.md): the completion of a check, its append or
discard, SET_DISPOSITION and READ_RECORDS. -/

namespace Sys2Proof.Machine

/-! ## The append -/

/-- Why an append is refused (R110, R120). -/
inductive StoreCause where
  | full | sequence
deriving DecidableEq, Repr

/-- Code of a store-full cause (R210). -/
def StoreCause.code : StoreCause → Nat
  | .full => 0 | .sequence => 1

/-- The conditions that refuse an append (R110). An exhausted sequence number gives cause SEQUENCE at every completion (R113), a
full store notwithstanding. -/
def Store.refuses (k : Store) : Option StoreCause :=
  if k.nextSequence = Config.lastSequence then some .sequence
  else if Config.storeCapacity ≤ k.records.length ∧ k.records.head?.any (·.upload ≠ .uploaded) then some .full
  else none

/-- The record made from a check, its finding and its class (R111, R112), for the stop's store part as it stands (R115). -/
def Check.record (c : Check) (f : Finding) (recClass : RecClass) (sequence : Nat) (stop : Option Stop) : Record :=
  { sequence := sequence, route := c.routeNumber, stop := c.entry.stop, meterId := c.static.meterId, segment := c.static.segment,
    kindTag := c.static.kindTag, reading := c.entry.best.reading, firstHeard := c.entry.firstHeard, movement := f.movement,
    amount := f.amount, hours := f.hours, rate := f.rate, ratio := f.ratio, category := f.category, recClass := recClass,
    evidence := f.evidence, copies := c.entry.copies, eligible := c.entry.eligible, mask := c.entry.mask,
    bestLevel := c.entry.best.level, bestCorrections := c.entry.best.corrections, bestTag := c.entry.best.tag,
    supersedes := stop.bind fun p => if p.recordCount = 1 then p.latest.map (·.sequence) else none,
    upload := .pending }

/-- An append (R111), with a reclaim of the oldest record first when the store holds 8192 (R119). -/
def Store.append (k : Store) (r : Record) : Store :=
  let full := decide (Config.storeCapacity ≤ k.records.length)
  { k with
    records := (if full then k.records.tail else k.records) ++ [r]
    nextSequence := k.nextSequence + 1
    appends := k.appends + 1
    reclaims := if full then k.reclaims + 1 else k.reclaims }

/-! ## The commit to the stop -/

/-- The stop's store part after an append (R115). -/
def Stop.withRecord (p : Stop) (r : Record) : Stop :=
  { p with recordCount := p.recordCount + 1, latest := some ⟨r.sequence, r.recClass, r.evidence⟩ }

/-- The status a commit gives and whether a recheck lapses, from the four facts of R44. -/
def commitStatus (recClass : RecClass) (first asked followup : Bool) (route : RouteState) (segment : SegmentState) :
    Status × Bool :=
  if asked ∧ first ∧ !followup then
    if route = .active ∧ segment ≠ .closed then (.recheck, false) else (recClass.status, true)
  else (recClass.status, false)

/-- The stop update of a commit (R44, R115): store part, status, late counter, revisit list, SEGMENT_COMPLETE. -/
def State.commitStop (s : State) (i : Nat) (r : Record) (asked followup : Bool) : State :=
  match s.route.stops[i]? with
  | none => s
  | some p =>
    let before := s.outstanding p.segment
    let (new, lapsed) := commitStatus r.recClass (p.recordCount == 0) asked followup s.route.state (s.segmentState p.segment)
    let s := (s.modStop i fun q => q.withRecord r).setStatus i new none
    let s := if lapsed then s.stepLapsed p.segment else s
    let s := if p.prior = some .missed then (s.stepLate p.segment).leaveRevisit i else s
    s.noteComplete p.segment before

/-- STORE_HIGH: the fill rose to the threshold in force (R118). -/
def State.testStoreHigh (s : State) (fillBefore : Nat) : State :=
  let fill := s.store.fill
  let threshold := s.route.params.storeHigh
  if fillBefore < threshold ∧ threshold ≤ fill then s.occur .storeHigh (u16 fill ++ u16 threshold) else s

/-- The body of a READING_REPORT (R116, R210): the record as appended, PENDING. -/
def readingReportBody (level : ReportLevel) (status : Status) (r : Record) : List Byte :=
  u8 level.code ++ u8 status.code ++ r.full .pending

/-- The messages a commit queues by the report level (R116). -/
def State.commitReports (s : State) (i : Nat) (level : ReportLevel) (r : Record) : State :=
  let status := ((s.route.stops[i]?).map (·.status)).getD .unread
  let reported := s.queueReport 0x82 (readingReportBody level status r)
  match level with
  | .none => s
  | .report => reported
  | .urgent => reported.occur .urgentRecord (u32 r.sequence ++ u16 i ++ u8 r.category.code.val)

/-- The offer of a recheck poll succeeds (R117). -/
def State.offerSucceeds (s : State) (i : Nat) (p : Stop) : Bool :=
  p.pollable && s.segmentState p.segment == .opened && decide (p.attempts < s.route.params.pollLimit)
    && !(s.tx.queue.any (·.stop == i)) && !(s.tx.state.onAir && s.tx.state.poll.any (·.stop == i))
    && decide (s.tx.queue.length < Config.pollCapacity)

/-- The recheck offer of a commit that set RECHECK, and the refill scan after it (R117, R128). -/
def State.offerRecheck (s : State) (i : Nat) : State :=
  match s.route.stops[i]? with
  | none => s
  | some p =>
    if p.status = .recheck then
      (if s.offerSucceeds i p then s.pushPoll (s.pollEntry i .recheck) else s).refillScan
    else s

/-! ## Completion -/

/-- The notices of a commit or discard in the order they reach the outbound queue: a dropped report's REPORTS_LOST where the report
would have stood (log 23), then those of R116. -/
def commitOrder : List Cause := [.reportsLost, .urgentRecord, .storeHigh, .segmentComplete]

/-- The notices of a discard: STORE_FULL before SEGMENT_COMPLETE (R120). -/
def discardOrder : List Cause := [.storeFull, .segmentComplete]

/-- The commit of a reading (R110), its steps in order; then the upload start test of the dock link (R110, R152). -/
def State.commitReading (s : State) (c : Check) (f : Finding) (d : Disposition) : State :=
  let i := c.entry.stop
  let r := c.record f d.recClass s.store.nextSequence s.route.stops[i]?
  let fillBefore := s.store.fill
  let s := s.modStore fun k => k.append r
  let s := s.commitStop i r d.recheck c.entry.followup
  let s := s.testStoreHigh fillBefore
  let s := (s.commitReports i d.report r).announceList commitOrder
  (s.offerRecheck i).uploadStart

/-- The discard of a reading (R120): the stop returns from HEARD, with a refill scan where it returns to UNREAD, MISSED or RECHECK
(R128). -/
def State.discardReading (s : State) (c : Check) (f : Finding) (cause : StoreCause) : State :=
  let i := c.entry.stop
  let n := ((s.route.stops[i]?).map Stop.segment).getD 0
  let before := s.outstanding n
  let s := s.returnStop i
  let s := s.modStore fun k => { k with drops := k.drops + 1 }
  let s := s.occur .storeFull (u8 cause.code ++ u16 i ++ u8 f.category.code.val ++ u16 s.store.fill)
  let s := (s.noteComplete n before).announceList discardOrder
  s.scanIf ((s.route.stops[i]?).any (·.status.wanted))

/-- The completion of a check (R105, R110): the disposition entry is read, the reading is committed or discarded, and the engine is
IDLE. -/
def State.completeCheck (s : State) (c : Check) : State :=
  let f := c.findings
  let d := s.route.disposition[f.category.code]
  let s := s.modCheck fun _ => none
  match s.store.refuses with
  | none => s.commitReading c f d
  | some cause => s.discardReading c f cause

/-- CHECK_COMPLETION (R105). -/
def execCheckCompletion (s : State) : Host.Outcome State Fault Refusal :=
  whenRunning s fun s =>
    match s.check with
    | some c => s.completeCheck c
    | none => s

/-! ## SET_DISPOSITION -/

/-- SET_DISPOSITION (R109, R40). -/
def actSetDisposition (link : Link) (b : SetDispositionBody) (s : State) : State × Answer :=
  match s.settingsLimit link with
  | some a => refuse s a
  | none =>
    match classOf b.recClass, reportOf b.report, boolCode b.recheck with
    | some cls, some level, some again =>
      if 15 < b.category.toNat then refuse s (badValue 0)
      else
        (s.modRoute fun r =>
          { r with disposition := r.disposition.set (Fin.ofNat 16 b.category.toNat) ⟨cls, level, again⟩ },
          .ok (u8 b.category.toNat ++ u8 cls.code ++ u8 level.code ++ flagByte again))
    | cls, level, _ =>
      refuse s (badValue (if 15 < b.category.toNat then 0 else if cls.isNone then 1 else if level.isNone then 2 else 3))

/-! ## READ_RECORDS -/

/-- The sequence number of the oldest record held, absent when the store is empty (R122, R123). -/
def Store.oldest (k : Store) : Option Nat := k.records.head?.map (·.sequence)

/-- READ_RECORDS (R122). -/
def actReadRecords (start : Word32) (count : Byte) (s : State) : State × Answer :=
  if count.toNat < 1 ∨ 8 < count.toNat then refuse s (badValue 1)
  else
    match s.store.records.filter fun r => start.toNat ≤ r.sequence with
    | [] => refuse s (.refused .notFound (u32 s.store.nextSequence ++ optional 4 (s.store.oldest.map u32)))
    | r :: rest =>
      (s, .ok (listOf (((r :: rest).take count.toNat).map fun r => r.full r.upload) ++ u32 s.store.nextSequence))

end Sys2Proof.Machine
end

