-- ==== Sys2Proof/Machine/Commands.lean ====
section
/-! DEFINITION. The taking of commands on both links: acting on one (R175, R158), the inbound hold of the van link (R173, R174), and the
held commands of the dock link (R150). -/

namespace Sys2Proof.Machine

/-! ## Acting on a command -/

/-- What a command does and its result, by the chapter that owns it. RESET_PART acts when its reply has been sent (R178). -/
def act (link : Link) (s : State) : Command → State × Answer
  | .loadBegin b => actLoadBegin link b s
  | .loadStops first records => actLoadStops link first records s
  | .loadSegment b => actLoadSegment link b s
  | .loadEnd => actLoadEnd link s
  | .loadAbort => actLoadAbort link s
  | .retireRoute => actRetireRoute s
  | .clearRoute => actClearRoute s
  | .setChannel b => actSetChannel b s
  | .setProfile b => actSetProfile link b s
  | .setDisposition b => actSetDisposition link b s
  | .setRouteParams b => actSetRouteParams link b s
  | .setDock b => actSetDock b s
  | .setNoticeMask causes => actSetNoticeMask causes s
  | .setAttnMode mode => actSetAttnMode mode s
  | .openSegment segment => actOpenSegment segment s
  | .closeSegment segment => actCloseSegment segment s
  | .skipStop stop => actSkipStop stop s
  | .unskipStop stop => actUnskipStop stop s
  | .pollStop stop => actPollStop stop s
  | .pollCancel stop => actPollCancel stop s
  | .txEnable => actTxEnable s
  | .txInhibit => actTxInhibit s
  | .setClock day second => actSetClock day second s
  | .clockSource source => actClockSource source s
  | .readStop form key => actReadStop form key s
  | .readSegment segment => actReadSegment segment s
  | .readRevisit first count => actReadRevisit first count s
  | .readRecords start count => actReadRecords start count s
  | .readForeign first count => actReadForeign first count s
  | .readStatus target => actReadStatus target s
  | .readCounters target => actReadCounters target s
  | .clearCounters target => actClearCounters target s
  | .ackNotice causes => actAckNotice causes s
  | .dockReset => actDockReset s
  | .resetPart => (s, .ok [])

/-- The eight commands that the dock link takes from the depot (R158). -/
def dockTakes : Command → Bool
  | .loadBegin _ | .loadStops _ _ | .loadSegment _ | .loadEnd | .loadAbort | .setProfile _ | .setDisposition _
  | .setRouteParams _ => true
  | .retireRoute | .clearRoute | .setChannel _ | .setDock _ | .setNoticeMask _ | .setAttnMode _ | .openSegment _
  | .closeSegment _ | .skipStop _ | .unskipStop _ | .pollStop _ | .pollCancel _ | .txEnable | .txInhibit | .setClock _ _
  | .clockSource _ | .readStop _ _ | .readSegment _ | .readRevisit _ _ | .readRecords _ _ | .readForeign _ _ | .readStatus _
  | .readCounters _ | .clearCounters _ | .ackNotice _ | .dockReset | .resetPart => false

/-- The examination of a held command (R175): BAD_FORM first (R176); on the dock link every command but the eight is refused
WRONG_STATE (R158). -/
def State.answer (s : State) (link : Link) (h : Held) : State × Answer :=
  match h.command, link with
  | none, _ => refuse s (.refused .badForm [])
  | some c, .van => act .van s c
  | some c, .dock => if dockTakes c then act .dock s c else refuse s (wrongState 5 s.dock.link.code)

/-- A command given with its body taken apart, as it is held. A LOAD_STOPS with no record or more than 16 does not fit its form
(R209). -/
def heldOf (tag : Byte) (c : Command) : Held :=
  { kind := commandKind c, tag := tag,
    command := match c with
      | .loadStops first records =>
        if records.length = 0 ∨ 16 < records.length then none else some (.loadStops first records)
      | other => some other }

/-! ## The van link -/

/-- Step van link counters (R186). -/
def State.countVan (s : State) (f : VanCounters → VanCounters) : State :=
  s.modVan fun v => { v with counters := f v.counters }

/-- A RESET_PART being taken: its reply joins behind the messages now in the outbound queue (R178). -/
def State.noteReset (s : State) (h : Held) : State :=
  if h.command = some .resetPart then s.modVan fun v => { v with resetReply := some v.outbound.length } else s

/-- Take the head command of the hold when the outbound queue has a free place and no RESET_PART is waiting (R175, R178): it leaves the
hold, is acted on, and its reply joins the tail. -/
def State.takeHead (s : State) : State :=
  match s.van.hold with
  | [] => s
  | h :: rest =>
    if s.van.outbound.length < Config.outboundCapacity ∧ s.van.resetReply = none then
      let s := (s.modVan fun v => { v with hold := rest }).countVan fun k => { k with taken := k.taken + 1 }
      let (s, a) := s.answer .van h
      (s.noteReset h).queueMessage (replyMessage h.kind h.tag a)
    else s

/-- A command whose last byte has arrived (R173 test 5, R174): it joins the hold, and is taken when it may be; with 4 held it is
discarded. -/
def State.vanHold (s : State) (h : Held) : State :=
  if s.van.hold.length < Config.holdCapacity then (s.modVan fun v => { v with hold := v.hold ++ [h] }).takeHead
  else s.countVan fun k => { k with holdFull := k.holdFull + 1 }

/-- A van link command row: its message arrives whole (log 7). -/
def vanCommand (tag : Byte) (c : Command) (s : State) : Host.Outcome State Fault Refusal :=
  whenRunning s fun s => s.vanHold (heldOf tag c)

/-! ## The dock link -/

/-- A reply to an earlier depot command is not yet sent (R150, log 20). -/
def Dock.replyWaits (d : Dock) : Bool := d.reply.isSome || d.sending.any (·.role = .reply)

/-- Take the head held depot command when no reply waits (R150); its reply is sent as soon as the line allows. -/
def State.takeHeld (s : State) : State :=
  match s.dock.held with
  | [] => s
  | h :: rest =>
    if s.dock.link.inSession ∧ !s.dock.replyWaits then
      let s := s.modDock fun d => { d with held := rest }
      let (s, a) := s.answer .dock h
      s.modDock fun d => { d with reply := some (replyMessage h.kind h.tag a) }.sendNext
    else s

/-- A depot command whose last byte has arrived (R149, R150): held in READY and UPLOADING while fewer than 4 are, discarded in
EXCHANGE, not taken in DOWN, ALIGN and FAULT. -/
def State.dockHold (s : State) (h : Held) : State :=
  match s.dock.link with
  | .down | .align | .fault => s
  | .exchange => s.discardDock
  | .ready | .uploading =>
    if s.dock.held.length < Config.holdCapacity then (s.modDock fun d => { d with held := d.held ++ [h] }).takeHeld
    else s.discardDock

/-- A command row of either link: its message arrives whole (log 7). -/
def linkCommand (link : Link) (tag : Byte) (c : Command) (s : State) : Host.Outcome State Fault Refusal :=
  whenRunning s fun s =>
    match link with
    | .van => s.vanHold (heldOf tag c)
    | .dock => s.dockHold (heldOf tag c)

end Sys2Proof.Machine
end

