-- ==== Sys2Proof/Machine/CommandRows.lean ====
section
/-! DEFINITION. The command rows of the table: each is its message arriving whole on its link and, when a command may be taken, its
taking (R174, R175; log 7). What each command does stands in the file of its block, under `act` and its name. -/

namespace Sys2Proof.Machine

/-- SET_CHANNEL (R15 to R17). -/
def execSetChannel (tag : Byte) (b : SetChannelBody) (s : State) : Host.Outcome State Fault Refusal :=
  vanCommand tag (.setChannel b) s

/-- READ_FOREIGN (R69). -/
def execReadForeign (tag first count : Byte) (s : State) : Host.Outcome State Fault Refusal :=
  vanCommand tag (.readForeign first count) s

/-- LOAD_BEGIN (R23, R24). -/
def execLoadBegin (link : Link) (tag : Byte) (b : LoadBeginBody) (s : State) : Host.Outcome State Fault Refusal :=
  linkCommand link tag (.loadBegin b) s

/-- LOAD_STOPS (R23, R25, R26). -/
def execLoadStops (link : Link) (tag : Byte) (first : Word16) (records : List StopRecord) (s : State) :
    Host.Outcome State Fault Refusal :=
  linkCommand link tag (.loadStops first records) s

/-- LOAD_SEGMENT (R23, R27). -/
def execLoadSegment (link : Link) (tag : Byte) (b : LoadSegmentBody) (s : State) : Host.Outcome State Fault Refusal :=
  linkCommand link tag (.loadSegment b) s

/-- LOAD_END (R28, R29). -/
def execLoadEnd (link : Link) (tag : Byte) (s : State) : Host.Outcome State Fault Refusal :=
  linkCommand link tag .loadEnd s

/-- LOAD_ABORT (R31). -/
def execLoadAbort (link : Link) (tag : Byte) (s : State) : Host.Outcome State Fault Refusal :=
  linkCommand link tag .loadAbort s

/-- RETIRE_ROUTE (R34). -/
def execRetireRoute (tag : Byte) (s : State) : Host.Outcome State Fault Refusal :=
  vanCommand tag .retireRoute s

/-- CLEAR_ROUTE (R35). -/
def execClearRoute (tag : Byte) (s : State) : Host.Outcome State Fault Refusal :=
  vanCommand tag .clearRoute s

/-- READ_STOP (R36). -/
def execReadStop (tag form : Byte) (key : Word32) (s : State) : Host.Outcome State Fault Refusal :=
  vanCommand tag (.readStop form key) s

/-- SET_PROFILE (R37, R40). -/
def execSetProfile (link : Link) (tag : Byte) (b : SetProfileBody) (s : State) : Host.Outcome State Fault Refusal :=
  linkCommand link tag (.setProfile b) s

/-- SET_ROUTE_PARAMS (R38 to R40). -/
def execSetRouteParams (link : Link) (tag : Byte) (b : SetRouteParamsBody) (s : State) : Host.Outcome State Fault Refusal :=
  linkCommand link tag (.setRouteParams b) s

/-- SET_DISPOSITION (R109). -/
def execSetDisposition (link : Link) (tag : Byte) (b : SetDispositionBody) (s : State) : Host.Outcome State Fault Refusal :=
  linkCommand link tag (.setDisposition b) s

/-- OPEN_SEGMENT (R47 to R49). -/
def execOpenSegment (tag segment : Byte) (s : State) : Host.Outcome State Fault Refusal :=
  vanCommand tag (.openSegment segment) s

/-- CLOSE_SEGMENT (R50). -/
def execCloseSegment (tag segment : Byte) (s : State) : Host.Outcome State Fault Refusal :=
  vanCommand tag (.closeSegment segment) s

/-- SKIP_STOP (R58). -/
def execSkipStop (tag : Byte) (stop : Word16) (s : State) : Host.Outcome State Fault Refusal :=
  vanCommand tag (.skipStop stop) s

/-- UNSKIP_STOP (R59). -/
def execUnskipStop (tag : Byte) (stop : Word16) (s : State) : Host.Outcome State Fault Refusal :=
  vanCommand tag (.unskipStop stop) s

/-- READ_REVISIT (R61). -/
def execReadRevisit (tag : Byte) (first : Word16) (count : Byte) (s : State) : Host.Outcome State Fault Refusal :=
  vanCommand tag (.readRevisit first count) s

/-- READ_SEGMENT (R62). -/
def execReadSegment (tag segment : Byte) (s : State) : Host.Outcome State Fault Refusal :=
  vanCommand tag (.readSegment segment) s

/-- READ_RECORDS (R122). -/
def execReadRecords (tag : Byte) (start : Word32) (count : Byte) (s : State) : Host.Outcome State Fault Refusal :=
  vanCommand tag (.readRecords start count) s

/-- POLL_STOP (R129). -/
def execPollStop (tag : Byte) (stop : Word16) (s : State) : Host.Outcome State Fault Refusal :=
  vanCommand tag (.pollStop stop) s

/-- POLL_CANCEL (R131). -/
def execPollCancel (tag : Byte) (stop : Word16) (s : State) : Host.Outcome State Fault Refusal :=
  vanCommand tag (.pollCancel stop) s

/-- TX_INHIBIT (R138). -/
def execTxInhibit (tag : Byte) (s : State) : Host.Outcome State Fault Refusal :=
  vanCommand tag .txInhibit s

/-- TX_ENABLE (R138). -/
def execTxEnable (tag : Byte) (s : State) : Host.Outcome State Fault Refusal :=
  vanCommand tag .txEnable s

/-- DOCK_RESET (R159). -/
def execDockReset (tag : Byte) (s : State) : Host.Outcome State Fault Refusal :=
  vanCommand tag .dockReset s

/-- SET_DOCK (R143). -/
def execSetDock (tag : Byte) (b : SetDockBody) (s : State) : Host.Outcome State Fault Refusal :=
  vanCommand tag (.setDock b) s

/-- SET_CLOCK (R166). -/
def execSetClock (tag : Byte) (day : Word16) (second : Word24) (s : State) : Host.Outcome State Fault Refusal :=
  vanCommand tag (.setClock day second) s

/-- CLOCK_SOURCE (R167). -/
def execClockSource (tag source : Byte) (s : State) : Host.Outcome State Fault Refusal :=
  vanCommand tag (.clockSource source) s

/-- READ_STATUS (R177). -/
def execReadStatus (tag target : Byte) (s : State) : Host.Outcome State Fault Refusal :=
  vanCommand tag (.readStatus target) s

/-- READ_COUNTERS (R177). -/
def execReadCounters (tag target : Byte) (s : State) : Host.Outcome State Fault Refusal :=
  vanCommand tag (.readCounters target) s

/-- CLEAR_COUNTERS (R177). -/
def execClearCounters (tag target : Byte) (s : State) : Host.Outcome State Fault Refusal :=
  vanCommand tag (.clearCounters target) s

/-- ACK_NOTICE (R184). -/
def execAckNotice (tag : Byte) (causes : Word16) (s : State) : Host.Outcome State Fault Refusal :=
  vanCommand tag (.ackNotice causes) s

/-- SET_NOTICE_MASK (R185). -/
def execSetNoticeMask (tag : Byte) (causes : Word16) (s : State) : Host.Outcome State Fault Refusal :=
  vanCommand tag (.setNoticeMask causes) s

/-- SET_ATTN_MODE (R187). -/
def execSetAttnMode (tag mode : Byte) (s : State) : Host.Outcome State Fault Refusal :=
  vanCommand tag (.setAttnMode mode) s

/-- RESET_PART (R178). -/
def execResetPart (tag : Byte) (s : State) : Host.Outcome State Fault Refusal :=
  vanCommand tag .resetPart s

end Sys2Proof.Machine
end

