-- ==== Sys2Proof/Machine/Dock.lean ====
section
/-! DEFINITION. The events of the dock link (08_dock_link_and_depot_upload.md): signal, alignment and symbol errors, pages, sending,
acknowledgements, and messages from the depot. -/

namespace Sys2Proof.Machine

/-! ## Signal and symbols -/

/-- DSD takes the level that means signal present, or the other one, by the polarity in force (R143). Which level the rows mean while
signal detect is not used, when DSD is not read, the spec does not say; the model moves the pin by the polarity then too (DESIGN
CHOICE, log 44). -/
def State.setSignal (s : State) (present : Bool) : State :=
  s.modDock fun d => { d with dsdPin := d.settings.polarityHigh == present }

/-- DOCK_SIGNAL_PRESENT (R144). The pin moves in every state of the part. -/
def execDockSignalPresent (s : State) : Host.Outcome State Fault Refusal :=
  whenRunning (s.setSignal true) State.deriveSignal

/-- DOCK_SIGNAL_ABSENT (R144): the signal-loss watch starts. The pin moves in every state of the part. -/
def execDockSignalAbsent (s : State) : Host.Outcome State Fault Refusal :=
  whenRunning (s.setSignal false) State.deriveSignal

/-- DOCK_SIGNAL_LOSS (R144): the signal has been absent for 10 ms. -/
def execDockSignalLoss (s : State) : Host.Outcome State Fault Refusal :=
  whenRunning s fun s => if s.dock.watch.any (·.due) then s.enterDown .signal else s

/-- ALIGNED (R145): 63 valid symbols follow the idle symbol found. -/
def execAligned (s : State) : Host.Outcome State Fault Refusal :=
  whenRunning s fun s => if s.dock.link = .align then s.enterExchange else s

/-- The link states in which symbols are judged at the aligned boundary (R146). -/
def LinkState.aligned : LinkState → Bool
  | .exchange | .ready | .uploading | .fault => true
  | .down | .align => false

/-- A message partly received is given up and counted (R150). -/
def State.abandonMessage (s : State) : State :=
  if s.dock.rx = [] then s else (s.modDock fun d => { d with rx := [] }).discardDock

/-- The error threshold is reached (R146): in EXCHANGE an exchange failure, from READY or UPLOADING a departure, in FAULT nothing. -/
def State.thresholdReached (s : State) : State :=
  match s.dock.link with
  | .exchange => s.exchangeFailure .errors
  | .ready | .uploading => s.enterAlign .errors
  | .down | .align | .fault => s

/-- SYMBOL_ERROR (R146). -/
def execSymbolError (s : State) : Host.Outcome State Fault Refusal :=
  whenRunning s fun s =>
    if s.dock.link.aligned then
      let s := (s.countDock fun k => { k with symbolErrors := satStep 65535 k.symbolErrors }).modDock fun d =>
        { d with windowErrors := d.windowErrors + 1 }
      let s := s.abandonMessage
      if s.dock.settings.threshold ≤ s.dock.windowErrors then s.thresholdReached else s
    else s

/-- DOCK_ERROR_WINDOW_END (R146): 1024 symbols have been received in the window. -/
def execDockErrorWindowEnd (s : State) : Host.Outcome State Fault Refusal :=
  whenRunning s fun s => if s.dock.link.aligned then s.modDock fun d => { d with windowErrors := 0 } else s

/-! ## Pages -/

/-- ABILITY_PAGE (R147). -/
def execAbilityPage (page : AbilityPage) (s : State) : Host.Outcome State Fault Refusal :=
  whenRunning s fun s => s.dockArrive (.ability page)

/-- DEPOT_PAGE (R148). -/
def execDepotPage (page : DepotPage) (s : State) : Host.Outcome State Fault Refusal :=
  whenRunning s fun s => s.dockArrive (.depot page)

/-- The page timer, while it runs (R147, R148). -/
def Exchange.timer : Exchange → Option Timer
  | .abilityWait t => some t
  | .routeWait t => some t
  | .abilitySending _ | .routeSending _ => none

/-- PAGE_TIMEOUT (R149). -/
def execPageTimeout (s : State) : Host.Outcome State Fault Refusal :=
  whenRunning s fun s =>
    if s.dock.link = .exchange ∧ (s.dock.exchange.bind Exchange.timer).any (·.due) then s.exchangeFailure .pageTimeout else s

/-! ## Sending -/

/-- What the end of the sending of a message starts (R147, R148, R150, R152). -/
def State.sendEnded (s : State) (role : DockRole) : State :=
  match role, s.dock.exchange with
  | .abilityPage, some (.abilitySending none) =>
    s.modDock fun d => { d with exchange := some (.abilityWait (.start Config.pageMs)) }
  | .abilityPage, some (.abilitySending (some p)) => s.judgeAbility p
  | .routePage, some (.routeSending none) =>
    s.modDock fun d => { d with exchange := some (.routeWait (.start Config.pageMs)) }
  | .routePage, some (.routeSending (some p)) => s.completeExchange p
  | .block, _ =>
    s.modDock fun d =>
      { d with outstanding := d.outstanding.map fun b => { b with timer := some (.start Config.ackMs) } }
  | _, _ => s

/-- DOCK_SEND_DONE (R147, R148, R150, R152): the last byte of the message being sent has left; what waits follows. Where an upload
message waits and a depot command is held, the spec gives no order; the model begins the message first and then takes the command, so
that its reply goes behind the message (DESIGN CHOICE, log 39). -/
def execDockSendDone (s : State) : Host.Outcome State Fault Refusal :=
  whenRunning s fun s =>
    match s.dock.sending with
    | none => s
    | some m =>
      let s := (s.modDock fun d => { d with sending := none }).sendEnded m.role
      (s.modDock Dock.sendNext).takeHeld

/-! ## Acknowledgements and timers of the upload -/

/-- BLOCK_ACK (R153, R157). -/
def execBlockAck (number : Byte) (s : State) : Host.Outcome State Fault Refusal :=
  whenRunning s fun s => s.dockArrive (.ack number)

/-- BLOCK_NAK (R155, R157). -/
def execBlockNak (number reason : Byte) (s : State) : Host.Outcome State Fault Refusal :=
  whenRunning s fun s => s.dockArrive (.nak number reason)

/-- RESEND_DELAY_EXPIRY (R155): a block is formed again. -/
def execResendDelayExpiry (s : State) : Host.Outcome State Fault Refusal :=
  whenRunning s fun s =>
    if s.dock.link = .uploading ∧ s.dock.resend.any (·.due) ∧ s.store.pendingRecords ≠ [] then
      (s.modDock fun d => { d with resend := none }).formBlock
    else s

/-- The outstanding block is sent once more (R156). -/
def State.resendBlock (s : State) (b : Block) : State :=
  ((s.modDock fun d => { d with outstanding := some { b with sends := b.sends + 1, timer := none } }).countDock fun k =>
    { k with resends := k.resends + 1 }).sendBlock

/-- ACK_TIMER_EXPIRY (R156). -/
def execAckTimerExpiry (s : State) : Host.Outcome State Fault Refusal :=
  whenRunning s fun s =>
    match s.dock.outstanding with
    | some b =>
      if s.dock.link = .uploading ∧ b.timer.any (·.due) then
        if b.sends ≤ 3 then s.resendBlock b else s.enterAlign .ackTimeout
      else s
    | none => s

/-! ## Messages from the depot -/

/-- A message from the depot whose framing check passed (R149, R150). -/
def State.dockMessage (s : State) (m : Message) : State :=
  if isCommandKind m.kind then s.dockHold ⟨m.kind, m.tag, commandOf m.kind m.body⟩
  else
    match dockArrivalOf m with
    | some a => s.dockArrive a
    | none => s.discardDock

/-- One thing the receiver found (R150). A link that has left EXCHANGE, READY and UPLOADING takes nothing more. -/
def State.dockReceived (s : State) (x : Received) : State :=
  match s.dock.link, x with
  | .down, _ | .align, _ | .fault, _ => s
  | _, .message m => s.dockMessage m
  | _, .badLength | _, .badCrc => s.discardDock

/-- The receiver takes bytes behind those of a message partly received (R150). Each thing found is an event of its own, at whose end
the causes due are announced (R183). -/
def State.dockBytes (s : State) (bytes : List Byte) : State :=
  let all := s.dock.rx ++ bytes
  let (found, left) := receive (all.length + 1) all
  found.foldl (fun s x => (s.dockReceived x).announceDue) (s.modDock fun d => { d with rx := left })

/-- DOCK_MESSAGE_ARRIVAL (R150): bytes arrive at the aligned boundary. In DOWN, ALIGN and FAULT no message is taken. -/
def execDockMessageArrival (bytes : List Byte) (s : State) : Host.Outcome State Fault Refusal :=
  whenRunning s fun s =>
    match s.dock.link with
    | .down | .align | .fault => s
    | .exchange | .ready | .uploading => s.dockBytes bytes

/-- DOCK_MESSAGE_ABANDONED (R150): an idle symbol within a message. -/
def execDockMessageAbandoned (s : State) : Host.Outcome State Fault Refusal :=
  whenRunning s State.abandonMessage

end Sys2Proof.Machine
end

