-- ==== Sys2Proof/Machine/Supply.lean ====
section
/-! DEFINITION. Supply, retention and start-up (11_supply_retention_and_start_up.md): the supply monitor, what a stop of activity
loses, and start-up with HELLO. -/

namespace Sys2Proof.Machine

/-! ## What is lost -/

/-- The route book without what is not retained: load owner, meter index and dwell elapsed (R41, R63). -/
def Route.retained (r : Route) : Route :=
  { r with
    owner := none, loadedBy := none, index := none
    segments := r.segments.map fun g => { g with dwellElapsed := 0 } }

/-- The record store without its counters (R125). -/
def Store.retained (k : Store) : Store := { k with appends := 0, reclaims := 0, drops := 0 }

/-- Every item lost at a reset takes its initial value; the retained state and the pins are held (R189, What is kept). -/
def State.loseVolatile (s : State) : State :=
  { s with
    channels := Vector.ofFn fun n => .initial s.channels[n].entry s.channels[n].cdPin
    capture := .initial
    route := s.route.retained
    check := none
    store := s.store.retained
    tx := .initial
    dock := .initial s.dock.settings s.dock.dsdPin
    clock := .initial
    van := .initial (Vector.ofFn fun k => s.van.notices[k].masked) s.van.attnMode }

/-- Activity stops in RUN or START and the monitor enters a state (R189, R193): the power-lost mark is cleared. -/
def State.stopActivity (s : State) (monitor : MonitorState) (kind : ResetKind) : State :=
  s.loseVolatile.modSupply fun p =>
    { p with monitor := monitor, powerLost := false, lastReset := kind, goodCount := none, starting := none }

/-! ## The supply monitor -/

/-- The retained memory depends on VBAK: in DIP and OFF while VDD is not good. The spec's state table has VBAK power it in both states
and R190 has VDD do so while VDD is good; the model follows R190 (DESIGN CHOICE, log 36). -/
def Supply.onVbak (p : Supply) : Bool := (p.monitor == .dip || p.monitor == .off) && !p.vddGood

/-- The retained memory loses its contents while it depends on a VBAK below 1.80 V (R190, R192); start-up learns of it by the marker
alone (log 22). -/
def Supply.retain (p : Supply) : Supply := { p with markerValid := p.markerValid && !(p.onVbak && p.vbakLow) }

/-- A change of the supply, and what it does to the retained memory (R190). -/
def State.supplied (s : State) (f : Supply → Supply) : State := s.modSupply fun p => (f p).retain

/-- SUPPLY_DIP (R189): VDD has fallen below 2.90 V. -/
def execSupplyDip (s : State) : Host.Outcome State Fault Refusal :=
  let s := s.modSupply fun p => { p with vddGood := false, goodCount := none }
  match s.supply.monitor with
  | .run | .start => .next ((s.stopActivity .dip .dip).supplied id)
  | .held => .next (s.supplied fun p => { p with monitor := .dip })
  | .dip | .off => .next (s.supplied id)

/-- POWER_LOST (R189): VDD has fallen below 1.50 V in DIP. -/
def execPowerLost (s : State) : Host.Outcome State Fault Refusal :=
  match s.supply.monitor with
  | .dip => .next (s.supplied fun p => { p with monitor := .off, powerLost := true, goodCount := none, vddGood := false })
  | .off | .held | .start | .run => .next s

/-- The interruption ends (R189, R193): START, or HELD while RESET_N is asserted, which makes the cause PIN. -/
def Supply.endInterruption (p : Supply) : Supply :=
  if p.resetAsserted then { p with monitor := .held, lastReset := .pin, goodCount := none }
  else { p with monitor := .start, lastReset := .dip, goodCount := none }

/-- VDD_GOOD (R189): VDD has stood at or above 3.00 V for 20 ms. -/
def execVddGood (s : State) : Host.Outcome State Fault Refusal :=
  match s.supply.monitor with
  | .dip | .off =>
    .next (if s.supply.goodCount.any (·.due) then s.modSupply Supply.endInterruption else s)
  | .held | .start | .run => .next s

/-- VDD_GOOD_LEVEL_CROSSING (R189): VDD crosses 3.00 V. In DIP and OFF a rise starts the 20 ms count and a fall ends it. -/
def execVddGoodLevelCrossing (rising : Bool) (s : State) : Host.Outcome State Fault Refusal :=
  let s := s.modSupply fun p => { p with vddGood := rising }
  match s.supply.monitor with
  | .dip | .off =>
    .next (s.supplied fun p => { p with goodCount := if rising then some (.start Config.vddGoodMs) else none })
  | .held | .start | .run => .next s

/-- VBAK_LOW (R190, R192): VBAK falls below 1.80 V, or stands at or above it again. The level is kept, so that a cell already flat when
the retained memory comes to depend on it loses the contents then. -/
def execVbakLow (s : State) (low : Bool := true) : Host.Outcome State Fault Refusal :=
  .next (s.supplied fun p => { p with vbakLow := low })

/-- RESET_N_ASSERT (R193): asserted for 1 microsecond or more. -/
def execResetNAssert (s : State) : Host.Outcome State Fault Refusal :=
  let s := s.modSupply fun p => { p with resetAsserted := true }
  match s.supply.monitor with
  | .run | .start => .next (s.stopActivity .held .pin)
  | .held | .dip | .off => .next s

/-- RESET_N_RELEASE (R193): in HELD start-up begins; in DIP and OFF the 20 ms count governs. -/
def execResetNRelease (s : State) : Host.Outcome State Fault Refusal :=
  let s := s.modSupply fun p => { p with resetAsserted := false }
  match s.supply.monitor with
  | .held => .next (s.modSupply fun p => { p with monitor := .start })
  | .run | .start | .dip | .off => .next s

/-- The part resets with cause COMMAND (R178, R193). R193 has the monitor enter START at once with VDD good and does not say what follows
while VDD stands between 2.90 V and 3.00 V; the model enters START then too (DESIGN CHOICE, log 42). -/
def State.commandReset (s : State) : State := s.stopActivity .start .command

/-! ## Start-up -/

/-- A cold start: every retained item at its default, then the marker (R195). -/
def State.coldStart (s : State) : State :=
  let s := (((s.modRoute fun _ => .cold).modTracker fun _ => .empty).modStore fun _ => .cold).modDock fun d =>
    { d with settings := .default }
  let s := s.modChannels fun cs => Vector.ofFn fun n => Channel.initial (.default n.val) cs[n].cdPin
  let s := s.modVan fun _ => .initial (Vector.replicate 13 false) .level
  s.modSupply fun p => { p with markerValid := true }

/-- The cause that HELLO reports (R193). -/
def Supply.resetCause (p : Supply) : ResetCause :=
  if !p.markerValid then .powerOnCold
  else
    match p.lastReset with
    | .command => .command
    | .pin => .pin
    | .dip => if p.powerLost then .powerOnRetained else .supplyDip

/-- The stops found HEARD, in ascending stop index order (R63). -/
def State.heardStops (s : State) : List Nat :=
  s.route.stopIndexes.filter fun i => (s.route.stops[i]?).any (·.status == .heard)

/-- The HELLO message (R196, R210). -/
def State.hello (s : State) (cause : ResetCause) (stopsReturned recordsReturned : Nat) : Message :=
  { kind := 0x81, tag := 0,
    body := u16 Config.familyCode ++ u8 Config.revision ++ u8 cause.code ++ u8 s.route.state.code ++ u16 s.route.number
      ++ u8 s.tracker.openOrder.length ++ u16 stopsReturned ++ u8 recordsReturned ++ u16 s.store.records.length
      ++ u16 s.store.fill ++ u32 s.store.nextSequence ++ u8 s.clock.state.code }

/-- The dock link when HELLO is sent: DOWN, then ALIGN at once with the signal present (R162). -/
def State.beginDock (s : State) : State := if s.dock.signalPresent then s.setLink .align .signalUp else s

/-- The place of a step in the order of R194. -/
def stepPlace : StartStep → Nat
  | .marker => 0 | .load => 1 | .index => 2 | .stops => 3 | .records => 4 | .dwell => 5 | .hello => 6

/-- The steps of start-up in their order (R194). -/
def startSteps : List StartStep := [.marker, .load, .index, .stops, .records, .dwell, .hello]

/-- What has been done of the start-up under way; before its first step, nothing. -/
def Supply.progress (p : Supply) : StartProgress := p.starting.getD ⟨.marker, p.resetCause, 0, 0⟩

/-- A step is done, the one after it comes next. -/
def State.noteStep (s : State) (next : StartStep) (f : StartProgress → StartProgress) : State :=
  s.modSupply fun p => { p with starting := some { f p.progress with next := next } }

/-- Step 1: the cause is found and a cold start made where the marker is invalid. Every lost item has its initial value from here on, so
that step 7 finds it so. -/
def State.startMarker (s : State) : State :=
  let cause := s.supply.resetCause
  let s := s.loseVolatile
  let s := if s.supply.markerValid then s else s.coldStart
  s.noteStep .load fun _ => ⟨.load, cause, 0, 0⟩

/-- Step 2: a load is discarded (R41). -/
def State.startLoad (s : State) : State :=
  let s := match s.route.state with
    | .loading | .activating => s.abandonRoute
    | .empty | .active | .retired => s
  s.noteStep .index id

/-- Step 3: the meter index of an ACTIVE route is rebuilt (R33, R41). -/
def State.startIndex (s : State) : State :=
  let s := if s.route.state = .active then s.modRoute fun r => { r with index := some r.buildIndex } else s
  s.noteStep .stops id

/-- Step 4: every HEARD stop returns (R45, R63). -/
def State.startStops (s : State) : State :=
  let heard := s.heardStops
  (heard.foldl State.returnStop s).noteStep .records fun x => { x with stops := heard.length }

/-- Step 5: every IN_FLIGHT record returns to PENDING (R125). -/
def State.startRecords (s : State) : State :=
  let returned := s.store.inFlightRecords.length
  (s.modStore Store.returnInFlight).noteStep .dwell fun x => { x with records := returned }

/-- Step 6: the dwell timers of the segments found OPEN start from 0 (R63). -/
def State.startDwell (s : State) : State :=
  (s.modRoute fun r =>
    { r with segments := r.segments.map fun g => if g.state = .opened then { g with dwellElapsed := 0 } else g }).noteStep .hello id

/-- Step 7 (R196): HELLO alone in the outbound queue, RUN, the dock link's beginning and the refill scan of R128. -/
def State.startHello (s : State) : State :=
  let x := s.supply.progress
  let s := s.queueMessage (s.hello x.cause x.stops x.records)
  let s := s.modSupply fun p => { p with monitor := .run, powerLost := false, starting := none }
  s.beginDock.refillScan

/-- One step of start-up (R194). -/
def State.startStep (s : State) : StartStep → State
  | .marker => s.startMarker
  | .load => s.startLoad
  | .index => s.startIndex
  | .stops => s.startStops
  | .records => s.startRecords
  | .dwell => s.startDwell
  | .hello => s.startHello

/-- The steps of the start-up under way that are not yet done, as far as a step. -/
def Supply.stepsUpTo (p : Supply) (upTo : StartStep) : List StartStep :=
  startSteps.filter fun k => decide (stepPlace p.progress.next ≤ stepPlace k) && decide (stepPlace k ≤ stepPlace upTo)

/-- START_UP (R194): the steps in order as far as the one given. A reset that follows before HELLO abandons the start-up with those steps
done (R193; DESIGN CHOICE that the row says how far it comes, log 37). -/
def execStartUp (s : State) (upTo : StartStep := .hello) : Host.Outcome State Fault Refusal :=
  match s.supply.monitor with
  | .start => ((s.supply.stepsUpTo upTo).foldl State.startStep s).finish
  | .off | .dip | .held | .run => .next s

end Sys2Proof.Machine
end

