-- ==== Sys2Proof/Machine/VanLink.lean ====
section
/-! DEFINITION. The events of the van link (10_van_link_commands_and_notices.md): receiving, sending, and the ATTN pulses. -/

namespace Sys2Proof.Machine

/-! ## Receiving -/

/-- A message whose length and CRC hold (R173, tests 4 and 5). -/
def State.vanMessage (s : State) (m : Message) : State :=
  if isCommandKind m.kind then s.vanHold ⟨m.kind, m.tag, commandOf m.kind m.body⟩
  else s.countVan fun k => { k with unknownKind := k.unknownKind + 1 }

/-- One thing the receiver found (R173). -/
def State.vanReceived (s : State) : Received → State
  | .message m => s.vanMessage m
  | .badLength => s.countVan fun k => { k with badLength := k.badLength + 1 }
  | .badCrc => s.countVan fun k => { k with badCrc := k.badCrc + 1 }

/-- What the receiver holds once bytes have come and been judged: after the last byte of a message partly received the gap is counted
anew (R173). -/
def Reception.taken (r : Reception) (bytes : List Byte) : List Byte → Reception
  | [] => .hunting
  | first :: behind => .within first behind (if bytes = [] then r.gap else .start Config.byteGapMs)

/-- The receiver takes bytes behind those of a message partly received (R173). Each thing found is an event of its own, at whose end
the causes due are announced (R183). -/
def State.vanBytes (s : State) (bytes : List Byte) : State :=
  let all := s.van.rx.bytes ++ bytes
  let (found, left) := receive (all.length + 1) all
  found.foldl (fun s x => (s.vanReceived x).announceDue) (s.modVan fun v => { v with rx := v.rx.taken bytes left })

/-- VAN_MESSAGE_ARRIVAL (R173, R174): bytes on VRX up to the end of a message that passes its tests (log 8). -/
def execVanMessageArrival (bytes : List Byte) (s : State) : Host.Outcome State Fault Refusal :=
  whenRunning s fun s => s.vanBytes bytes

/-- VAN_MESSAGE_DISCARD (R173): bytes on VRX up to the end of a message that fails a test; the receiver judges them (log 8). -/
def execVanMessageDiscard (bytes : List Byte) (s : State) : Host.Outcome State Fault Refusal :=
  whenRunning s fun s => s.vanBytes bytes

/-- A message partly received is discarded as incomplete (R173, test 2); hunting resumes at the next byte. -/
def State.vanIncomplete (s : State) : State :=
  (s.modVan fun v => { v with rx := .hunting }).countVan fun k =>
    if s.van.rx.bytes = [] then k else { k with incomplete := k.incomplete + 1 }

/-- VAN_BYTE_GAP_TIMEOUT (R173): more than 2 ms have passed since the last byte of a message partly received. -/
def execVanByteGapTimeout (s : State) : Host.Outcome State Fault Refusal :=
  whenRunning s fun s => if s.van.rx.gap.due then s.vanIncomplete else s

/-- BYTE_WITHOUT_STOP_BIT (R173). Outside a message it is passed over uncounted. -/
def execByteWithoutStopBit (s : State) : Host.Outcome State Fault Refusal :=
  whenRunning s fun s => s.vanIncomplete

/-! ## Sending -/

/-- The head message has left the outbound queue, and the reply to a waiting RESET_PART has moved up (R178, R180). -/
def State.dropHead (s : State) : State :=
  s.modVan fun v => { v with outbound := v.outbound.tail, resetReply := v.resetReply.map (· - 1) }

/-- OUTBOUND_SENT (R178, R180): the part resets when the head was the reply to RESET_PART. Otherwise the place freed goes to a due
notice, and a waiting command is taken once no cause is due. -/
def execOutboundSent (s : State) : Host.Outcome State Fault Refusal :=
  match s.supply.monitor with
  | .off | .dip | .held | .start => .next s
  | .run =>
    if s.van.outbound = [] then .next s
    else if s.van.resetReply = some 0 then .next s.commandReset
    else s.dropHead.announceDue.takeHead.finish

/-! ## ATTN -/

/-- ATTN_PULSE_END (R187): 10 microseconds high have passed. -/
def execAttnPulseEnd (s : State) : Host.Outcome State Fault Refusal :=
  whenRunning s fun s => if s.van.attnPhase = .high then s.modVan fun v => { v with attnPhase := .gap } else s

/-- ATTN_LOW_GAP_END (R187): 10 microseconds low have passed; an owed pulse begins. -/
def execAttnLowGapEnd (s : State) : Host.Outcome State Fault Refusal :=
  whenRunning s fun s =>
    if s.van.attnPhase = .gap then
      s.modVan fun v =>
        if v.attnOwed = 0 then { v with attnPhase := .rest } else { v with attnPhase := .high, attnOwed := v.attnOwed - 1 }
    else s

end Sys2Proof.Machine
end

