-- ==== Sys2Proof/Machine/Dispatch.lean ====
section
/-! DEFINITION. One arm for every row of spec/opcode_table.json. -/

namespace Sys2Proof.Machine

def exec (i : Instr) (s : State) : Host.Outcome State Fault Refusal :=
  match i with
      -- receive channels
  | .syncDetection ch symbols => Sys2Proof.Machine.execSyncDetection ch s symbols
  | .headerComplete ch length complement => Sys2Proof.Machine.execHeaderComplete ch length complement s
  | .blockComplete ch fec body crc levels => Sys2Proof.Machine.execBlockComplete ch fec body crc levels s
  | .carrierLoss ch => Sys2Proof.Machine.execCarrierLoss ch s
  | .carrierPresent ch => Sys2Proof.Machine.execCarrierPresent ch s
  | .streamStopped ch => Sys2Proof.Machine.execStreamStopped ch s
  | .muteHoldExpiry ch => Sys2Proof.Machine.execMuteHoldExpiry ch s
  | .setChannel tag b => Sys2Proof.Machine.execSetChannel tag b s
      -- capture filter
  | .captureFrame ch => Sys2Proof.Machine.execCaptureFrame ch s
  | .holdTimerExpiry stop => Sys2Proof.Machine.execHoldTimerExpiry stop s
  | .gatherLimitExpiry stop => Sys2Proof.Machine.execGatherLimitExpiry stop s
  | .readForeign tag first count => Sys2Proof.Machine.execReadForeign tag first count s
      -- check engine
  | .checkStart => Sys2Proof.Machine.execCheckStart s
  | .checkCompletion => Sys2Proof.Machine.execCheckCompletion s
      -- route book
  | .loadBegin link tag b => Sys2Proof.Machine.execLoadBegin link tag b s
  | .loadStops link tag first records => Sys2Proof.Machine.execLoadStops link tag first records s
  | .loadSegment link tag b => Sys2Proof.Machine.execLoadSegment link tag b s
  | .loadEnd link tag => Sys2Proof.Machine.execLoadEnd link tag s
  | .loadAbort link tag => Sys2Proof.Machine.execLoadAbort link tag s
  | .indexBuildComplete => Sys2Proof.Machine.execIndexBuildComplete s
  | .retireRoute tag => Sys2Proof.Machine.execRetireRoute tag s
  | .clearRoute tag => Sys2Proof.Machine.execClearRoute tag s
  | .readStop tag form key => Sys2Proof.Machine.execReadStop tag form key s
  | .setProfile link tag b => Sys2Proof.Machine.execSetProfile link tag b s
  | .setRouteParams link tag b => Sys2Proof.Machine.execSetRouteParams link tag b s
  | .setDisposition link tag b => Sys2Proof.Machine.execSetDisposition link tag b s
      -- route tracker
  | .openSegment tag segment => Sys2Proof.Machine.execOpenSegment tag segment s
  | .closeSegment tag segment => Sys2Proof.Machine.execCloseSegment tag segment s
  | .dwellTimerExpiry segment => Sys2Proof.Machine.execDwellTimerExpiry segment s
  | .skipStop tag stop => Sys2Proof.Machine.execSkipStop tag stop s
  | .unskipStop tag stop => Sys2Proof.Machine.execUnskipStop tag stop s
  | .readRevisit tag first count => Sys2Proof.Machine.execReadRevisit tag first count s
  | .readSegment tag segment => Sys2Proof.Machine.execReadSegment tag segment s
      -- record store
  | .readRecords tag start count => Sys2Proof.Machine.execReadRecords tag start count s
      -- poll transmitter
  | .pollTake => Sys2Proof.Machine.execPollTake s
  | .guardComplete => Sys2Proof.Machine.execGuardComplete s
  | .clearWaitExpiry => Sys2Proof.Machine.execClearWaitExpiry s
  | .burstEnd => Sys2Proof.Machine.execBurstEnd s
  | .listenWindowExpiry => Sys2Proof.Machine.execListenWindowExpiry s
  | .pollStop tag stop => Sys2Proof.Machine.execPollStop tag stop s
  | .pollCancel tag stop => Sys2Proof.Machine.execPollCancel tag stop s
  | .txInhibit tag => Sys2Proof.Machine.execTxInhibit tag s
  | .txEnable tag => Sys2Proof.Machine.execTxEnable tag s
      -- dock link
  | .dockSignalPresent => Sys2Proof.Machine.execDockSignalPresent s
  | .dockSignalAbsent => Sys2Proof.Machine.execDockSignalAbsent s
  | .dockSignalLoss => Sys2Proof.Machine.execDockSignalLoss s
  | .aligned => Sys2Proof.Machine.execAligned s
  | .symbolError => Sys2Proof.Machine.execSymbolError s
  | .dockErrorWindowEnd => Sys2Proof.Machine.execDockErrorWindowEnd s
  | .abilityPage page => Sys2Proof.Machine.execAbilityPage page s
  | .depotPage page => Sys2Proof.Machine.execDepotPage page s
  | .pageTimeout => Sys2Proof.Machine.execPageTimeout s
  | .dockSendDone => Sys2Proof.Machine.execDockSendDone s
  | .blockAck number => Sys2Proof.Machine.execBlockAck number s
  | .blockNak number reason => Sys2Proof.Machine.execBlockNak number reason s
  | .resendDelayExpiry => Sys2Proof.Machine.execResendDelayExpiry s
  | .ackTimerExpiry => Sys2Proof.Machine.execAckTimerExpiry s
  | .dockMessageArrival bytes => Sys2Proof.Machine.execDockMessageArrival bytes s
  | .dockMessageAbandoned => Sys2Proof.Machine.execDockMessageAbandoned s
  | .dockReset tag => Sys2Proof.Machine.execDockReset tag s
  | .setDock tag b => Sys2Proof.Machine.execSetDock tag b s
      -- route clock
  | .ppsPulse => Sys2Proof.Machine.execPpsPulse s
  | .pulseWatchExpiry => Sys2Proof.Machine.execPulseWatchExpiry s
  | .secondStep => Sys2Proof.Machine.execSecondStep s
  | .setClock tag day second => Sys2Proof.Machine.execSetClock tag day second s
  | .clockSource tag source => Sys2Proof.Machine.execClockSource tag source s
      -- van link
  | .vanMessageArrival bytes => Sys2Proof.Machine.execVanMessageArrival bytes s
  | .vanMessageDiscard bytes => Sys2Proof.Machine.execVanMessageDiscard bytes s
  | .vanByteGapTimeout => Sys2Proof.Machine.execVanByteGapTimeout s
  | .byteWithoutStopBit => Sys2Proof.Machine.execByteWithoutStopBit s
  | .outboundSent => Sys2Proof.Machine.execOutboundSent s
  | .readStatus tag target => Sys2Proof.Machine.execReadStatus tag target s
  | .readCounters tag target => Sys2Proof.Machine.execReadCounters tag target s
  | .clearCounters tag target => Sys2Proof.Machine.execClearCounters tag target s
  | .ackNotice tag causes => Sys2Proof.Machine.execAckNotice tag causes s
  | .setNoticeMask tag causes => Sys2Proof.Machine.execSetNoticeMask tag causes s
  | .setAttnMode tag mode => Sys2Proof.Machine.execSetAttnMode tag mode s
  | .attnPulseEnd => Sys2Proof.Machine.execAttnPulseEnd s
  | .attnLowGapEnd => Sys2Proof.Machine.execAttnLowGapEnd s
  | .resetPart tag => Sys2Proof.Machine.execResetPart tag s
      -- supply and start-up
  | .supplyDip => Sys2Proof.Machine.execSupplyDip s
  | .powerLost => Sys2Proof.Machine.execPowerLost s
  | .vddGood => Sys2Proof.Machine.execVddGood s
  | .vddGoodLevelCrossing rising => Sys2Proof.Machine.execVddGoodLevelCrossing rising s
  | .vbakLow low => Sys2Proof.Machine.execVbakLow s low
  | .resetNAssert => Sys2Proof.Machine.execResetNAssert s
  | .resetNRelease => Sys2Proof.Machine.execResetNRelease s
  | .startUp upTo => Sys2Proof.Machine.execStartUp s upTo

end Sys2Proof.Machine
end

