-- ==== Sys2Proof/Machine/Tick.lean ====
section
/-! DEFINITION. One millisecond of the time base (R170): what a step on an empty queue does (log 2). The durations that have run out and
whose expiry has not been taken expire first, so that none ends later than one millisecond after its length (log 4); then every running
duration counts on. -/

namespace Sys2Proof.Machine

/-- The stream-stop watch and a running mute hold (R4, R14). -/
def Channel.tick (c : Channel) : Channel :=
  { c with stream := c.stream.map Timer.tick, muteHold := c.muteHold.map Timer.tick }

/-- The timers of a GATHERING entry; those of a finalised entry run no further (R80, R83). -/
def Entry.tick (e : Entry) : Entry :=
  if e.final.isNone then { e with hold := e.hold.tick, gather := e.gather.tick } else e

/-- A running dwell timer (R55). -/
def Segment.tick (g : Segment) : Segment :=
  if g.dwellRuns then { g with dwellElapsed := min (g.dwellElapsed + 1) (1000 * g.dwellLimit) } else g

/-- The times of the poll in hand (R133 to R135). The guard time counts while CH0 is clear, and is zero while it is not. -/
def TxState.tick (clear : Bool) : TxState → TxState
  | .idle => .idle
  | .clearing p g w => .clearing p (if clear then min (g + 1) Config.guardMs else 0) w.tick
  | .keyed p token cancelled burst => .keyed p token cancelled burst.tick
  | .listen p token cancelled window => .listen p token cancelled window.tick

/-- A running page timer (R147, R148). -/
def Exchange.tick : Exchange → Exchange
  | .abilitySending early => .abilitySending early
  | .abilityWait t => .abilityWait t.tick
  | .routeSending early => .routeSending early
  | .routeWait t => .routeWait t.tick

/-- The timers of the dock link (R144, R147, R152, R155). -/
def Dock.tick (d : Dock) : Dock :=
  { d with
    watch := d.watch.map Timer.tick
    exchange := d.exchange.map Exchange.tick
    outstanding := d.outstanding.map fun b => { b with timer := b.timer.map Timer.tick }
    resend := d.resend.map Timer.tick }

/-- The sub-second in FREE and LOCKED, and the time since the last pulse (R163 to R165). -/
def Clock.tick (c : Clock) : Clock :=
  { c with
    sub := if c.state = .unset then c.sub else min (c.sub + 1) (Config.secondMs - 1)
    stepDue := c.stepDue || (c.state != .unset && decide (Config.secondMs ≤ c.sub + 1))
    sincePulse := c.sincePulse.map fun t => min (t + 1) Config.ppsWatchMs }

/-- The gap behind the last byte of a message partly received (R173). -/
def Reception.tick : Reception → Reception
  | .hunting => .hunting
  | .within first behind gap => .within first behind gap.tick

/-- The running time of the van link (R173). -/
def Van.tick (v : Van) : Van := { v with rx := v.rx.tick }

/-- The dwell timers of an ACTIVE route (R55). -/
def Route.tick (r : Route) : Route :=
  if r.state = .active then { r with segments := r.segments.map Segment.tick } else r

/-- One millisecond in RUN. -/
def State.tickRun (s : State) : State :=
  { s with
    channels := Vector.ofFn fun n => s.channels[n].tick
    capture := { s.capture with heard := s.capture.heard.map Entry.tick }
    route := s.route.tick
    tx := { s.tx with state := s.tx.state.tick s.channels[(0 : ChannelNo)].clear }
    dock := s.dock.tick
    clock := s.clock.tick
    van := s.van.tick }

/-- One millisecond in START: the time base runs from the beginning of start-up (R170), and the dwell timers run once step 6 has started
them (R63, R194). No other duration runs before HELLO. -/
def State.tickStart (s : State) : State :=
  if s.supply.starting.any (·.next == .hello) then s.modRoute Route.tick else s

/-- One millisecond counted, in any monitor state: the time base runs in START and RUN (R170); in DIP and OFF the monitor's own timer
counts the good time (R189); in HELD nothing runs. -/
def State.count (s : State) : State :=
  match s.supply.monitor with
  | .run => s.tickRun
  | .dip | .off => s.modSupply fun p => { p with goodCount := p.goodCount.map Timer.tick }
  | .start => s.tickStart
  | .held => s

/-! ## Expiries not yet taken -/

/-- A row, when the event it stands for is due. -/
def dueRow (due : Bool) (row : Instr) : List Instr := if due then [row] else []

/-- The mute hold of a channel has run out (R14). -/
def Channel.muteHoldDue (c : Channel) : Bool := c.state == .muted && c.muteHold.any (·.due)

/-- The expiries of the heard table: of each entry, in creation order, its hold timer before its gather limit (R80). -/
def Capture.dueRows (c : Capture) : List Instr :=
  c.gatheringByAge.flatMap fun e => dueRow e.hold.due (.holdTimerExpiry e.stop) ++ dueRow e.gather.due (.gatherLimitExpiry e.stop)

/-- The dwell timers that have run out, in open order (R55). -/
def State.dwellDueRows (s : State) : List Instr :=
  if s.route.state = .active then
    s.tracker.openOrder.flatMap fun n => dueRow ((s.route.segments[n]?).any (·.dwellDue)) (.dwellTimerExpiry n)
  else []

/-- The time of the poll in hand that has run out: the guard time before the clear wait (R133 to R136). -/
def TxState.dueRows (clear : Bool) : TxState → List Instr
  | .idle => []
  | .clearing _ guard wait => dueRow (clear && decide (Config.guardMs ≤ guard)) .guardComplete ++ dueRow wait.due .clearWaitExpiry
  | .keyed _ _ _ burst => dueRow burst.due .burstEnd
  | .listen _ _ _ window => dueRow window.due .listenWindowExpiry

/-- The timers of the dock link that have run out (R144, R149, R155, R156). -/
def Dock.dueRows (d : Dock) : List Instr :=
  dueRow (d.watch.any (·.due)) .dockSignalLoss ++ dueRow ((d.exchange.bind Exchange.timer).any (·.due)) .pageTimeout ++
    dueRow ((d.outstanding.bind (·.timer)).any (·.due)) .ackTimerExpiry ++ dueRow (d.resend.any (·.due)) .resendDelayExpiry

/-- The second step and the pulse watch (R164, R165). -/
def Clock.dueRows (c : Clock) : List Instr :=
  dueRow (c.state != .unset && c.stepDue) .secondStep ++
    dueRow (c.watchPresent && c.sincePulse.any (Config.ppsWatchMs ≤ ·)) .pulseWatchExpiry

/-- The byte gap of the van link (R173). -/
def Van.dueRows (v : Van) : List Instr := dueRow v.rx.gap.due .vanByteGapTimeout

/-- The expiries that are due and not yet taken, in the order in which the next millisecond takes them. Where several fall together the
spec leaves the order open; a sender that wants another gives the rows itself (DESIGN CHOICE, log 4). -/
def State.dueRows (s : State) : List Instr :=
  match s.supply.monitor with
  | .run =>
    s.clock.dueRows
      ++ (List.finRange 4).flatMap (fun n : ChannelNo => dueRow (s.channels[n].stream.any (·.due)) (.streamStopped n))
      ++ (List.finRange 4).flatMap (fun n : ChannelNo => dueRow s.channels[n].muteHoldDue (.muteHoldExpiry n))
      ++ s.capture.dueRows ++ s.dwellDueRows ++ s.tx.state.dueRows s.channels[(0 : ChannelNo)].clear ++ s.dock.dueRows
      ++ s.van.dueRows
  | .dip | .off => dueRow (s.supply.goodCount.any (·.due)) .vddGood
  | .held | .start => []

/-- One row taken. No row faults or is refused. -/
def State.after (s : State) (i : Instr) : State :=
  match exec i s with
  | .next t => t
  | .fault _ | .refused _ => s

/-- One millisecond (R170): what is due expires, then every running duration counts on. -/
def State.tick (s : State) : State := (s.dueRows.foldl State.after s).count

end Sys2Proof.Machine
end

