-- ==== Sys2Proof/Machine/Step.lean ====
section
/-! DEFINITION. The step: the command at the front of the queue acts, or one millisecond passes. -/

namespace Sys2Proof.Machine

/-- Replace the queue of waiting commands alone. -/
def State.withPending (s : State) (cs : List Instr) : State := { s with pending := cs }

/-- One step (log 1, log 2): the front command of the queue is taken off it and acts; on an empty queue one millisecond passes. -/
def step (s : State) : Host.Outcome State Fault Refusal :=
  match s.pending with
  | [] => .next s.tick
  | c :: rest => exec c (s.withPending rest)

/-- The command that a table word spells, put at the front of the queue; no word spells one (log 1). -/
def State.withFetchWord (s : State) (nbits w : Nat) : State :=
  match decodeTableWord nbits w with
  | some c => s.withPending (c :: s.pending)
  | none => s

end Sys2Proof.Machine
end

