-- ==== Sys2Proof/Machine/Outputs.lean ====
section
/-! DEFINITION. The outputs of the part as functions of its state (R197 and the chapters of the links and the transmitter). Bit and
line timing is not modelled (log 24). -/

namespace Sys2Proof.Machine

/-- The part works: HELLO has been sent and no reset has followed (R197). -/
def State.running (s : State) : Bool := s.supply.monitor == .run

/-- An output as the part leaves it: not driven, so that the board's resistor gives the level, or driven to a value (R197). -/
inductive Output (α : Type) where
  | undriven
  | drive (value : α)
deriving DecidableEq, Repr

/-- An output with the value it has at rest through a reset and the value that its own chapter gives it from HELLO on (R197): in DIP and
OFF it is not driven. -/
def State.output {α : Type} (s : State) (rest value : α) : Output α :=
  match s.supply.monitor with
  | .dip | .off => .undriven
  | .held | .start => .drive rest
  | .run => .drive value

/-- VRDY (R174): asserted is high. -/
def State.vrdy (s : State) : Output Bool := s.output false (decide (s.van.hold.length < Config.holdCapacity))

/-- ATTN (R187). -/
def State.attn (s : State) : Output Bool :=
  s.output false
    (match s.van.attnMode with
    | .level => Cause.all.any fun c => (s.notice c).pending && !(s.notice c).masked
    | .pulse => s.van.attnPhase == .high)

/-- TXKEY (R134): asserted is true. -/
def State.txkey (s : State) : Output Bool := s.output false s.tx.state.isKeyed

/-- TXD (R134, R200): the bits of the burst while the transmitter is keyed, each symbol high bit first; otherwise low. -/
def State.txd (s : State) : Output (Option (List Bool)) :=
  s.output none
    (match s.tx.state with
    | .keyed p token _ _ => some ((pollBurst p.meterId token).flatMap symbolBits)
    | .idle | .clearing .. | .listen .. => none)

/-- VTX (R172, R180): the bits of the message being sent, the head of the outbound queue, its bytes back to back; otherwise the idle
line. -/
def State.vtx (s : State) : Output (Option (List LineBit)) :=
  s.output none (s.van.outbound.head?.map fun m => m.frame.flatMap lineBits)

/-- What DTX carries (R143, R197): line symbols from HELLO on, those of a message or idle symbols; otherwise a steady level. -/
inductive Dtx where
  | steady
  | idle
  | message (bytes : List Byte)
deriving DecidableEq, Repr

/-- DTX (R143, R150). -/
def State.dtx (s : State) : Output Dtx :=
  s.output .steady
    (match s.dock.sending with
    | none => .idle
    | some m => .message m.message.frame)

/-- LVLCK runs (R4, R197). -/
def State.lvlck (s : State) : Output Bool := s.output false true

end Sys2Proof.Machine
end

