-- ==== Sys2Proof/Safety.lean ====
section
/-! DEFINITION. What statements about the machine speak of: frames over the blocks of the state, the conditions under which a command
is taken, and the invariants that every step keeps. -/

namespace Sys2Proof.Machine

/-! ## Frames -/

/-- The parts of the state. -/
inductive Part where
  | pending | supply | channels | capture | route | tracker | check | store | tx | dock | clock | van | free
deriving DecidableEq, Repr

/-- Two states agree on one part. -/
def State.agree (s t : State) : Part → Prop
  | .pending => t.pending = s.pending
  | .supply => t.supply = s.supply
  | .channels => t.channels = s.channels
  | .capture => t.capture = s.capture
  | .route => t.route = s.route
  | .tracker => t.tracker = s.tracker
  | .check => t.check = s.check
  | .store => t.store = s.store
  | .tx => t.tx = s.tx
  | .dock => t.dock = s.dock
  | .clock => t.clock = s.clock
  | .van => t.van = s.van
  | .free => t.freeUses = s.freeUses

/-- From `s` to `t` nothing changes outside the parts named. -/
def State.frame (changed : List Part) (s t : State) : Prop := ∀ b, b ∉ changed → s.agree t b

/-- Every channel but one is unchanged. -/
def State.otherChannels (ch : ChannelNo) (s t : State) : Prop := ∀ k : ChannelNo, k ≠ ch → t.channels[k] = s.channels[k]

/-- `k` NOTICEs have been queued one after another between `v` and `w`: in PULSE mode each gives one ATTN pulse, begun at once where
ATTN is at rest and otherwise owed; in LEVEL mode they give none (R183, R187). -/
def Van.pulsed (v : Van) (k : Nat) (w : Van) : Prop :=
  if v.attnMode = .pulse then
    w.attnPhase = (if v.attnPhase = .rest ∧ 0 < k then .high else v.attnPhase) ∧
    w.attnOwed = v.attnOwed + (if v.attnPhase = .rest then k - 1 else k)
  else w.attnPhase = v.attnPhase ∧ w.attnOwed = v.attnOwed

/-- Within the van link, nothing but the outbound queue and the notice state with its ATTN pulses changes. -/
def Van.sameLink (v w : Van) : Prop :=
  w.rx = v.rx ∧ w.hold = v.hold ∧ w.resetReply = v.resetReply ∧ w.attnMode = v.attnMode

/-! ## Rows taken in turn -/

/-- From `s` to `t` the rows of a list have been taken one after another, each completing. -/
def State.runs : List Instr → State → State → Prop
  | [], s, t => t = s
  | i :: rest, s, t => ∃ m, exec i s = .next m ∧ State.runs rest m t

/-! ## What occurs -/

/-- From `s` to `t` each cause of the list has occurred once, with the detail beside it, and no other has (R182). -/
def State.raised (s t : State) (list : List (Cause × List Byte)) : Prop :=
  ∀ c, (t.notice c).masked = (s.notice c).masked ∧
    match list.lookup c with
    | none =>
      (t.notice c).pending = (s.notice c).pending ∧ (t.notice c).count = (s.notice c).count ∧
        (t.notice c).detail = (s.notice c).detail
    | some detail =>
      (t.notice c).pending = true ∧
        (t.notice c).count = (if (s.notice c).pending then satStep 65535 (s.notice c).count else 1) ∧
        (t.notice c).detail = if (s.notice c).pending then (s.notice c).detail else some detail

/-- Nothing but NOTICEs has joined the outbound queue, each with its ATTN pulse, and of the rest of the van link only the notice
state can have changed (R182, R183, R187). -/
def State.onlyNotices (s t : State) : Prop :=
  (∃ notices, t.van.outbound = s.van.outbound ++ notices ∧ (∀ m ∈ notices, m.kind = 0x85) ∧ s.van.pulsed notices.length t.van) ∧
  s.van.sameLink t.van ∧
  t.van.counters = s.van.counters

/-- From `s` to `t` an event has changed nothing outside the parts named, each cause of the list has occurred, and the van link has
at most announced notices. -/
def State.changesOnly (s t : State) (raised : List (Cause × List Byte)) (changed : List Part) : Prop :=
  s.onlyNotices t ∧ s.raised t raised ∧ s.frame (.van :: changed) t

/-- What becomes of a guard time when CH0 is looked at: it returns to zero unless CH0 is clear (R133). -/
def State.guardKept (s t : State) : Prop :=
  t.tx = { s.tx with
    state := match s.tx.state with
      | .clearing p guard wait => .clearing p (if t.channels[(0 : ChannelNo)].clear then guard else 0) wait
      | other => other }

/-! ## When a command is taken -/

/-- No due cause waits while the outbound queue has a free place (R183). -/
def State.settled (s : State) : Prop :=
  (∀ c : Cause, (s.notice c).due = false) ∨ Config.outboundCapacity ≤ s.van.outbound.length

/-- The part works, no command is held, a place for a reply is free and no RESET_PART waits: a command that arrives on the van link
is taken at once (R175). -/
def State.ready (s : State) : Prop :=
  s.running = true ∧ s.van.hold = [] ∧ s.van.outbound.length < Config.outboundCapacity ∧ s.van.resetReply = none

/-- The state in which a command that has just arrived is acted on: it is counted as taken (R186). -/
def State.taking (s : State) : State := s.countVan fun k => { k with taken := k.taken + 1 }

/-- A command acted on and answered: its reply joins the tail of the outbound queue, then the causes due are announced (R175). -/
def answered (kind tag : Byte) (r : State × Answer) : State := (r.1.queueMessage (replyMessage kind tag r.2)).announceDue

/-- From `s` to `t` one command has been taken and answered on the van link: its reply joined the outbound queue, and nothing but
notices followed it, each with its ATTN pulse (R175, R183, R186, R187). -/
def State.replies (s t : State) (kind tag : Byte) (a : Answer) : Prop :=
  (∃ notices, t.van.outbound = s.van.outbound ++ replyMessage kind tag a :: notices ∧ (∀ m ∈ notices, m.kind = 0x85) ∧
    s.van.pulsed notices.length t.van) ∧
  t.van.hold = [] ∧ t.van.rx = s.van.rx ∧ t.van.resetReply = none

/-- From `s` to `t` a command of the van link has been taken and answered, each cause of the list has occurred, and nothing outside
the van link and the parts named has changed. -/
def State.completes (s t : State) (kind tag : Byte) (a : Answer) (raised : List (Cause × List Byte)) (changed : List Part) : Prop :=
  s.replies t kind tag a ∧ s.raised t raised ∧ t.van.attnMode = s.van.attnMode ∧
  t.van.counters = { s.van.counters with taken := s.van.counters.taken + 1 } ∧ s.frame (.van :: changed) t

/-- The link is in a session, no depot command is held and no reply waits: a depot command that arrives is taken at once (R150). -/
def State.dockReady (s : State) : Prop :=
  s.running = true ∧ s.dock.link.inSession = true ∧ s.dock.held = [] ∧ s.dock.replyWaits = false

/-- A depot command acted on and answered: its reply waits, and is sent at once when the line is free (R150). -/
def dockAnswered (kind tag : Byte) (r : State × Answer) : State :=
  (r.1.modDock fun d => { d with reply := some (replyMessage kind tag r.2) }.sendNext).announceDue

/-- From `s` to `t` a depot command has been taken and answered: its reply is being sent, or waits for the message being sent
(R150). -/
def State.dockCompletes (s t : State) (kind tag : Byte) (a : Answer) (raised : List (Cause × List Byte)) (changed : List Part) :
    Prop :=
  (t.dock = match s.dock.sending with
    | none => { s.dock with sending := some ⟨.reply, replyMessage kind tag a⟩ }
    | some _ => { s.dock with reply := some (replyMessage kind tag a) }) ∧
  s.changesOnly t raised (.dock :: changed)

/-- A command that arrives on a link is taken at once. -/
def State.linkReady (s : State) : Link → Prop
  | .van => s.ready
  | .dock => s.dockReady

/-- A command of either link has been taken and answered on the link it came from. -/
def State.linkCompletes (s t : State) (link : Link) (kind tag : Byte) (a : Answer) (raised : List (Cause × List Byte))
    (changed : List Part) : Prop :=
  match link with
  | .van => s.completes t kind tag a raised changed
  | .dock => s.dockCompletes t kind tag a raised changed

/-- A command of the van link is taken and refused, and nothing else happens (R175, R176). -/
def State.refuses (s : State) (i : Instr) (kind tag : Byte) (code : RefusalCode) (detail : List Byte) : Prop :=
  ∃ t, exec i s = .next t ∧ s.completes t kind tag (.refused code detail) [] []

/-- The detail of a WRONG_STATE on account of the route-table state (R203). -/
def State.routeDetail (s : State) : List Byte := [0, BitVec.ofNat 8 s.route.state.code]

/-! ## Which rows do what -/

/-- The rows that move a pin or act on the supply monitor: they act in every monitor state. -/
def pinOrSupply : Instr → Bool
  | .carrierLoss _ | .carrierPresent _ | .dockSignalPresent | .dockSignalAbsent | .supplyDip | .powerLost | .vddGood
  | .vddGoodLevelCrossing _ | .vbakLow _ | .resetNAssert | .resetNRelease | .startUp _ => true
  | _ => false

/-- The decoder has an attempt whose outcome a loss of carrier decides (R8, R17). -/
def Channel.losesCarrier (c : Channel) : Bool := c.decoder.inProgress && c.rule.cdUsed

/-- The attempt that a row ends, and its outcome (R6 to R8). -/
def State.ends (s : State) : Instr → Option (ChannelNo × DecodeOutcome)
  | .headerComplete ch length complement =>
    match s.channels[ch].decoder with
    | .header _ => if headerGood length complement then none else some (ch, .format)
    | _ => none
  | .blockComplete ch fec body crc _ =>
    match s.channels[ch].decoder with
    | .body _ length => if body.length = length then some (ch, blockOutcome fec body crc) else none
    | _ => none
  | .carrierLoss ch => if s.channels[ch].losesCarrier then some (ch, .syncLoss) else none
  | .streamStopped ch =>
    if s.channels[ch].stream.any (·.due) && s.channels[ch].decoder.inProgress then some (ch, .syncLoss) else none
  | _ => none

/-! ## Readings in hand -/

/-- The stops of the readings in hand: GATHERING, FINAL_WAIT, queued or in check (R35). -/
def State.inHand (s : State) : List Nat :=
  s.capture.heard.map (·.stop) ++ s.capture.queue.map (·.stop) ++ (s.check.map (·.entry.stop)).toList

/-- The capture filter after the test of R79 on an entry that gathers: the entry is finalised or stays. -/
def Capture.tested (c : Capture) (confirmCount : Nat) (e : Entry) : Capture :=
  if confirmCount ≤ e.eligible ∨ e.polled = true then
    { c.handToCheck (e.finalised confirmCount c.nextFinal) with nextFinal := c.nextFinal + 1 }
  else c

/-- The oldest frame that a channel has handed on and capture has not taken (R10, R65). -/
def Capture.nextFrame (c : Capture) (ch : ChannelNo) : Option Frame := c.handedOn.find? (·.channel == ch)

/-- The frames left when the oldest of a channel is taken. -/
def Capture.framesAfter (c : Capture) (ch : ChannelNo) : List Frame := c.handedOn.eraseP (·.channel == ch)

/-- The capture filter once the GATHERING entries of a list have been finalised one after another, in its order (R81 to R83). -/
def Capture.finalisedAll (c : Capture) (confirmCount : Nat) (entries : List Entry) : Capture :=
  entries.foldl (fun c e => { c.handToCheck (e.finalised confirmCount c.nextFinal) with nextFinal := c.nextFinal + 1 }) c

/-- The stop whose meter a frame names (R33). -/
def State.stopFor (s : State) (f : Frame) : Option (Nat × Stop) :=
  (s.route.lookup f.meterId).bind fun i => s.route.stops[i]?.map fun p => (i, p)

/-- The capture counters after a frame that opens and joins no entry, by the table of R65 (R87); nothing for a frame that does. -/
def State.countedFrame (s : State) (f : Frame) : Option CaptureCounters :=
  let k := s.capture.counters
  if s.route.state ≠ .active then some { k with noRoute := k.noRoute + 1 }
  else
    match s.stopFor f with
    | none => some { k with foreign := k.foreign + 1 }
    | some (i, p) =>
      match p.status with
      | .skipped => some { k with skipped := k.skipped + 1 }
      | .read | .flagged =>
        if !isFollowup p f then some { k with duplicate := k.duplicate + 1 }
        else if 2 ≤ p.recordCount then some { k with beyondLimit := k.beyondLimit + 1 }
        else none
      | .heard => if s.capture.gatheringFor i = none then some { k with lateCopy := k.lateCopy + 1 } else none
      | .unread | .missed | .recheck => none

/-- A frame of a meter that an ACTIVE route does not hold (R67). -/
def State.isForeign (s : State) (f : Frame) : Bool := s.route.state == .active && (s.stopFor f).isNone

/-- The foreign list after a frame of a foreign meter: its item at the head, made at the cost of the tail where the list was full
(R68). -/
def State.foreignAfter (s : State) (f : Frame) : List ForeignItem :=
  match s.capture.foreign.find? (·.meterId == f.meterId) with
  | some item =>
    ⟨f.meterId, satStep 65535 item.copies, s.stamp, f.channel, f.level⟩ :: s.capture.foreign.filter (·.meterId ≠ f.meterId)
  | none =>
    ⟨f.meterId, 1, s.stamp, f.channel, f.level⟩ ::
      (if s.capture.foreign.length < 64 then s.capture.foreign else s.capture.foreign.dropLast)

/-! ## Closing a segment -/

/-- A stop after the close of its segment (R51, steps 3 and 4). -/
def Stop.closed (p : Stop) : Stop :=
  match p.status with
  | .unread => { p with status := .missed, prior := none }
  | .recheck => { p with status := p.latestStatus, prior := none }
  | .heard | .read | .flagged | .missed | .skipped => p

/-- A segment after its close (R51, steps 3 to 5; R52): its UNREAD stops counted as MISSED, its RECHECK stops as READ or FLAGGED,
one recheck lapsed for each of these, CLOSED, the dwell elapsed held. -/
def State.closedSegment (s : State) (n : Nat) (g : Segment) : Segment :=
  let missed := (s.stopsOf n .unread).length
  let lapsed := (s.stopsOf n .recheck).length
  let read := (s.stopsOf n .recheck).countP fun i => (s.route.stops[i]?).any (·.latestStatus == .read)
  { g with
    state := .closed
    counts := { g.counts with
      unread := g.counts.unread - missed, missed := g.counts.missed + missed, recheck := g.counts.recheck - lapsed
      read := g.counts.read + read, flagged := g.counts.flagged + (lapsed - read) }
    lapsed := Nat.repeat (satStep 65535) lapsed g.lapsed }

/-- From `s` to `t` segment `n` has been closed by the close rule (R51): the segment with its counters and its stops, the open order
and the revisit list, the GATHERING entries finalised in creation order, and the polls gone with the refill scan that follows. -/
def State.closes (s t : State) (n : Nat) : Prop :=
  t.route = { s.route with
    stops := s.route.stops.map fun p => if p.segment = n then p.closed else p
    segments := s.route.segments.modify n (s.closedSegment n) } ∧
  t.capture = s.capture.finalisedAll s.route.params.confirmCount
    (s.capture.gatheringByAge.filter fun e => s.inSegment n e.stop) ∧
  t.tx = ((({ s with route := t.route, tracker := t.tracker } : State).dropPolls (s.inSegment n)).scanIf
    (s.pollsReached (s.inSegment n))).tx ∧
  t.tracker = {
    openOrder := s.tracker.openOrder.filter (· ≠ n)
    revisit := s.tracker.revisit ++ (s.stopsOf n .unread).filter (· ∉ s.tracker.revisit) } ∧
  (∀ e ∈ t.capture.heard, s.inSegment n e.stop = true → e.final.isSome = true) ∧
  (∀ e ∈ s.capture.heard, s.inSegment n e.stop = false → e.final = none → e ∈ t.capture.heard) ∧
  (∀ q ∈ t.tx.queue, s.inSegment n q.stop = false) ∧
  (s.pollsReached (s.inSegment n) = false → t.tx = s.tx)

/-! ## Leaving a dock link state -/

/-- The dock link controller after it has left its state (R147, R151): outside DOWN, ALIGN and FAULT the exchange, the negotiated
values, the outstanding block and everything not yet begun are gone, and from a session the link-down counter has stepped. That a message partly received goes
uncounted is the model's choice (log 40). -/
def Dock.left (d : Dock) : Dock :=
  if d.link = .exchange ∨ d.link.inSession = true then
    { d with
      exchange := none, format := none, blockSize := none, wanted := none, depotNumber := none, identity := none
      outstanding := none, resend := none, nakCount := 0, held := [], reply := none, waiting := [], rx := []
      sending := d.sending.map fun m => { m with role := .stale }
      counters := if d.link.inSession then { d.counters with linkDown := d.counters.linkDown + 1, wasDown := true } else d.counters }
  else d

/-- From `s` to `t` the dock link has left its state: from a session every IN_FLIGHT record is PENDING again and a load of the dock
link is discarded (R32, R151). -/
def State.linkLeft (s t : State) : Prop :=
  let session := s.dock.link.inSession = true
  t.store = (if session then
    { s.store with
      records := s.store.records.map fun r => if r.upload = .inFlight then { r with upload := .pending } else r }
    else s.store) ∧
  (if session ∧ s.route.state = .loading ∧ s.route.owner = some .dock then
    t.route = { s.route with
      state := .empty, number := 0, shiftDay := 0, owner := none, loadedBy := none, stops := [], segments := [], index := none } ∧
    t.tracker = ⟨[], []⟩
  else t.route = s.route ∧ t.tracker = s.tracker)

/-- A DOCK_STATE detail: the old state, the new state and the cause (R160, R210). -/
def dockState (old new : LinkState) (cause : DockCause) : List (Cause × List Byte) :=
  [(.dockState, [BitVec.ofNat 8 old.code, BitVec.ofNat 8 new.code, BitVec.ofNat 8 cause.code])]

/-- The oldest PENDING records formed into a block and sent (R152, R207): from `s`, in which the link is UPLOADING with no block
outstanding, to `t`. The block takes as many records as the three limits of R207 allow. -/
def State.formsBlock (s t : State) : Prop :=
  let n := (blockRecords (s.dock.format.getD 1) (s.dock.blockSize.getD 0) s.store.pendingRecords).length
  t.store = { s.store with records := markInFlight n s.store.records } ∧
  t.dock = (({ s.dock with
    outstanding := some ⟨(s.store.pendingRecords.head?.map (·.sequence)).getD 0, n, 1, none⟩
    counters := { s.dock.counters with blocksSent := s.dock.counters.blocksSent + 1 }
    waiting := s.dock.waiting ++
      [⟨.block, ⟨0xA8, 0, uploadBlockBody (s.dock.format.getD 1) s.dock.blockNumber t.store.inFlightRecords⟩⟩] } : Dock)).sendNext

/-! ## A reset -/

/-- From `s` to `t` all activity has stopped: what the spec retains is held, and everything else has its initial value, the supply
monitor apart (R189, What is kept). -/
def State.resets (s t : State) : Prop :=
  (∀ k : ChannelNo, t.channels[k] = .initial s.channels[k].entry s.channels[k].cdPin) ∧ t.capture = .initial ∧
  t.route = { s.route with
    owner := none, loadedBy := none, index := none, segments := s.route.segments.map fun g => { g with dwellElapsed := 0 } } ∧
  t.tracker = s.tracker ∧ t.check = none ∧ t.store = { s.store with appends := 0, reclaims := 0, drops := 0 } ∧
  t.tx = .initial ∧ t.dock = .initial s.dock.settings s.dock.dsdPin ∧ t.clock = .initial ∧
  t.van.rx = .hunting ∧ t.van.hold = [] ∧ t.van.outbound = [] ∧ t.van.resetReply = none ∧ t.van.counters = .zero ∧
  t.van.attnMode = s.van.attnMode ∧ t.van.attnPhase = .rest ∧ t.van.attnOwed = 0 ∧
  (∀ c : Cause, t.notice c = .clear (s.notice c).masked) ∧ t.pending = s.pending ∧ t.freeUses = s.freeUses

/-- From `s` to `t` bytes received on VRX, or a message sent, have changed the van link alone: the queue of commands held stays,
notices at most join the outbound queue, the counters stand as given, and the receiver holds the bytes given, behind the last of
which the gap is counted anew (R173, R183). -/
def State.linkCounts (s t : State) (rx : List Byte) (counters : VanCounters) : Prop :=
  (∃ notices, t.van.outbound = s.van.outbound ++ notices ∧ (∀ m ∈ notices, m.kind = 0x85) ∧ s.van.pulsed notices.length t.van) ∧
  t.van.rx = (match rx with | [] => .hunting | first :: behind => .within first behind ⟨0, 2⟩) ∧ t.van.hold = s.van.hold ∧ t.van.resetReply = s.van.resetReply ∧
  t.van.attnMode = s.van.attnMode ∧ t.van.counters = counters ∧
  s.raised t [] ∧ s.frame [.van] t

/-! ## Invariants -/

/-- A start-up under way stands outside RUN with every lost item at its initial value, and what its steps have done stays done: past
step 4 no stop is HEARD, past step 5 no record IN_FLIGHT (R193, R194). -/
def State.startingHolds (s : State) : Prop :=
  ∀ x, s.supply.starting = some x →
    s.running = false ∧ s.van.outbound = [] ∧ (∀ c : Cause, (s.notice c).pending = false) ∧ s.inHand = [] ∧
    s.dock.outstanding = none ∧ (stepPlace .stops < stepPlace x.next → ∀ p ∈ s.route.stops, p.status ≠ .heard) ∧
    (stepPlace .records < stepPlace x.next → s.store.inFlightRecords = [])

/-- While the part works, a stop is HEARD exactly while one reading of it is in hand, and nothing is in hand outside an ACTIVE or
RETIRED route (R35, R43, R73). -/
def State.inHandHolds (s : State) : Prop :=
  s.startingHolds ∧ (s.running = true →
    s.inHand.Nodup ∧ (s.route.state ≠ .active → s.route.state ≠ .retired → s.inHand = []) ∧
    ∀ i, i ∈ s.inHand ↔ ∃ p, s.route.stops[i]? = some p ∧ p.status = .heard)

/-- Every table and queue is within its stated capacity (R24, R47, R68, R72, R83, R110, R126, R150, R174, R180), and the revisit
list holds stops of the stop table, none twice (R60). -/
def State.withinCapacity (s : State) : Prop :=
  s.startingHolds ∧
  s.capture.heard.length ≤ Config.heardCapacity ∧ s.capture.queue.length ≤ Config.checkCapacity ∧
  s.capture.foreign.length ≤ Config.foreignCapacity ∧ s.route.stops.length ≤ Config.maxStops ∧
  s.route.segments.length ≤ Config.maxSegments ∧ s.tracker.openOrder.length ≤ Config.openCapacity ∧
  s.store.records.length ≤ Config.storeCapacity ∧ s.tx.queue.length ≤ Config.pollCapacity ∧
  s.van.hold.length ≤ Config.holdCapacity ∧ s.van.outbound.length ≤ Config.outboundCapacity ∧
  s.dock.held.length ≤ Config.holdCapacity ∧ s.tracker.revisit.Nodup ∧ (∀ i ∈ s.tracker.revisit, i < s.route.stops.length) ∧
  s.tracker.revisit.length ≤ Config.maxStops

/-- The place of an upload state in the order of R114. -/
def UploadState.rank : UploadState → Nat
  | .uploaded => 0 | .inFlight => 1 | .pending => 2

/-- The records carry an unbroken run of sequence numbers up to one below the next (R113), stand in the order UPLOADED, IN_FLIGHT,
PENDING (R114), and number at most 8192. -/
def Store.wellOrdered (k : Store) : Prop :=
  k.records.length ≤ Config.storeCapacity ∧ k.records.length < k.nextSequence ∧ k.nextSequence ≤ Config.lastSequence ∧
  k.records.map (·.sequence) = List.range' (k.nextSequence - k.records.length) k.records.length ∧
  k.records.Pairwise fun a b => a.upload.rank ≤ b.upload.rank

/-- In an ACTIVE or RETIRED route each segment's stop count is the number of its stops, and each status counter the number of its
stops in that status (R46, R52). -/
def Route.countersExact (r : Route) : Prop :=
  (r.state = .active ∨ r.state = .retired) →
    ∀ n g, r.segments[n]? = some g →
      g.stopCount = r.stops.countP (fun p => p.segment == n) ∧
      ∀ st : Status, g.counts.of st = r.stops.countP fun p => p.segment == n && p.status == st

/-- The open order holds exactly the OPEN segments, none twice, at most four, and none outside an ACTIVE route (R46, R47, R126). -/
def State.openOrderExact (s : State) : Prop :=
  s.tracker.openOrder.Nodup ∧ s.tracker.openOrder.length ≤ Config.openCapacity ∧
  (s.route.state ≠ .active → s.tracker.openOrder = []) ∧
  ∀ n, n ∈ s.tracker.openOrder ↔ ∃ g, s.route.segments[n]? = some g ∧ g.state = .opened

/-- Polls sent equals satisfied plus expired, plus one while a poll is KEYED or LISTEN, in 32 bits (R140). -/
def Transmitter.accountHolds (t : Transmitter) : Prop :=
  t.counters.sent = t.counters.satisfied + t.counters.expired + (if t.state.onAir then 1 else 0)

/-- A channel is OFF in state and decoder exactly when its entry in force disables it, and a pending entry leaves enabled as it is
(R15, R17). -/
def Channel.enabledHolds (c : Channel) : Prop :=
  (c.entry.enabled = true ↔ c.state ≠ .off) ∧ (c.entry.enabled = true ↔ c.decoder ≠ .off) ∧
  ∀ e, c.pendingEntry = some e → e.enabled = c.entry.enabled

/-- CH0 is BLANKED exactly while the transmitter is keyed, unless it is OFF, and CH1 to CH3 never are (R9). -/
def State.blankingHolds (s : State) : Prop :=
  (∀ k : ChannelNo, s.channels[k].enabledHolds) ∧ (∀ k : ChannelNo, k ≠ 0 → s.channels[k].decoder ≠ .blanked) ∧
  (s.channels[(0 : ChannelNo)].decoder = .blanked → s.tx.state.isKeyed = true) ∧
  (s.tx.state.isKeyed = true →
    s.channels[(0 : ChannelNo)].decoder = .blanked ∨ s.channels[(0 : ChannelNo)].decoder = .off)

/-- While the part works, IN_FLIGHT records exist only with a block outstanding, and a block is outstanding only in UPLOADING
(R152). -/
def State.inFlightHolds (s : State) : Prop :=
  s.startingHolds ∧ (s.running = true →
    (s.store.inFlightRecords ≠ [] → s.dock.outstanding.isSome = true) ∧
    (s.dock.outstanding.isSome = true → s.dock.link = .uploading))

end Sys2Proof.Machine
end

