-- ==== Sys2Proof/Certificates/Slice0/Obligations.lean ====
section
/-! DEFINITION. The statements for the provers, by chapter of the spec. -/

open Sys2Proof Sys2Proof.Machine

/-! ## The machine -/

/-- A step takes the command at the front of the queue and runs it on the state with the queue's rest. -/
def Obligations.StepRunsFrontCommand : Prop :=
  ∀ (c : Instr) (rest : List Instr) (s : State), s.pending = c :: rest → step s = exec c (s.withPending rest)

/-- Every command answers a next state: the spec gives no error path and no undefined command (R106, R173, R176; a row whose event
cannot happen leaves the state as it is, the model's choice, log 3). It leaves the queue of waiting commands alone. While the part
does not work, every row but those of the pins and the supply monitor is lost without a trace (R194). -/
def Obligations.EveryCommandCompletes : Prop :=
  ∀ (c : Instr) (s : State), (∃ t, exec c s = .next t ∧ t.pending = s.pending) ∧
    (pinOrSupply c = false → s.running = false → exec c s = .next s)

/-- The model's choice (logs 2 and 4): a step on an empty queue is one millisecond of the time base. The expiries that are due,
and no other rows, are taken in turn; then, in RUN, the running durations count on by one millisecond, each up to its length,
and nothing else changes (the guard time is zero while CH0 is not clear, R133); in DIP and OFF the monitor's own 20 ms count
does so alone; in START the dwell timers alone count, once step 6 of start-up has started them (R63, R170, R194), and in HELD
nothing changes. -/
def Obligations.IdleStepIsOneMillisecond : Prop :=
  ∀ s : State, s.pending = [] →
    let due (i : Instr) : Prop := i ∈ s.dueRows
    let runOut (x : Option Timer) : Prop := ∃ d, x = some d ∧ d.limit ≤ d.elapsed
    let ch0 := s.channels[(0 : ChannelNo)]
    let next (d : Timer) : Timer := { d with elapsed := min (d.elapsed + 1) d.limit }
    let dwelling (r : Route) : Route :=
      if r.state = .active then
        { r with segments := r.segments.map fun g =>
            if g.state = .opened ∧ g.dwellLimit ≠ 0 then
              { g with dwellElapsed := min (g.dwellElapsed + 1) (1000 * g.dwellLimit) }
            else g }
      else r
    let isClear (c : Channel) : Bool :=
      (match c.decoder with | .header _ | .body .. => false | .off | .hunt | .blanked => true) &&
        !(c.entry.cdUsed && c.cdPin == c.entry.cdHigh)
    (∃ m t, s.runs s.dueRows m ∧ step s = .next t ∧
      (m.supply.monitor = .run →
        (∀ n : ChannelNo, t.channels[n] = { m.channels[n] with
          stream := m.channels[n].stream.map next, muteHold := m.channels[n].muteHold.map next }) ∧
        t.van = { m.van with rx := match m.van.rx with
          | .hunting => .hunting
          | .within first behind gap => .within first behind (next gap) } ∧
        t.capture = { m.capture with heard := m.capture.heard.map fun e =>
          if e.final = none then { e with hold := next e.hold, gather := next e.gather } else e } ∧
        t.route = dwelling m.route ∧
        t.tx = { m.tx with state := match m.tx.state with
          | .idle => .idle
          | .clearing q guard wait =>
            .clearing q (if isClear m.channels[(0 : ChannelNo)] = true then min (guard + 1) 5 else 0) (next wait)
          | .keyed q token x burst => .keyed q token x (next burst)
          | .listen q token x window => .listen q token x (next window) } ∧
        t.dock = { m.dock with
          watch := m.dock.watch.map next
          exchange := m.dock.exchange.map fun x => match x with
            | .abilitySending early => .abilitySending early
            | .abilityWait d => .abilityWait (next d)
            | .routeSending early => .routeSending early
            | .routeWait d => .routeWait (next d)
          outstanding := m.dock.outstanding.map fun b => { b with timer := b.timer.map next }
          resend := m.dock.resend.map next } ∧
        t.clock = { m.clock with
          sub := if m.clock.state = .unset then m.clock.sub else min (m.clock.sub + 1) 999
          stepDue := m.clock.stepDue || (m.clock.state != .unset && decide (1000 ≤ m.clock.sub + 1))
          sincePulse := m.clock.sincePulse.map fun n => min (n + 1) 2500 } ∧
        m.frame [.channels, .capture, .route, .tx, .dock, .clock, .van] t) ∧
      (m.supply.monitor = .dip ∨ m.supply.monitor = .off →
        t = { m with supply := { m.supply with goodCount := m.supply.goodCount.map next } }) ∧
      (m.supply.monitor = .start →
        t = if m.route.state = .active ∧ ∃ x, m.supply.starting = some x ∧ x.next = .hello then
          { m with route := dwelling m.route }
        else m) ∧
      (m.supply.monitor = .held → t = m)) ∧
    (s.running = true →
      (∀ n : ChannelNo, (due (.muteHoldExpiry n) ↔ s.channels[n].state = .muted ∧ runOut s.channels[n].muteHold) ∧
        (due (.streamStopped n) ↔ runOut s.channels[n].stream)) ∧
      (due .vanByteGapTimeout ↔ s.van.rx.bytes ≠ [] ∧ s.van.rx.gap.limit ≤ s.van.rx.gap.elapsed) ∧
      (∀ i, (due (.holdTimerExpiry i) ↔
          ∃ e ∈ s.capture.heard, e.final = none ∧ e.stop = i ∧ e.hold.limit ≤ e.hold.elapsed) ∧
        (due (.gatherLimitExpiry i) ↔
          ∃ e ∈ s.capture.heard, e.final = none ∧ e.stop = i ∧ e.gather.limit ≤ e.gather.elapsed)) ∧
      (∀ n, due (.dwellTimerExpiry n) ↔ s.route.state = .active ∧ n ∈ s.tracker.openOrder ∧
        ∃ g, s.route.segments[n]? = some g ∧ g.state = .opened ∧ g.dwellLimit ≠ 0 ∧ 1000 * g.dwellLimit ≤ g.dwellElapsed) ∧
      (due .guardComplete ↔ ∃ q guard wait, s.tx.state = .clearing q guard wait ∧ 5 ≤ guard ∧ isClear ch0 = true) ∧
      (due .clearWaitExpiry ↔ ∃ q guard wait, s.tx.state = .clearing q guard wait ∧ wait.limit ≤ wait.elapsed) ∧
      (due .burstEnd ↔ ∃ q token x burst, s.tx.state = .keyed q token x burst ∧ burst.limit ≤ burst.elapsed) ∧
      (due .listenWindowExpiry ↔ ∃ q token x window, s.tx.state = .listen q token x window ∧ window.limit ≤ window.elapsed) ∧
      (due .dockSignalLoss ↔ runOut s.dock.watch) ∧ (due .resendDelayExpiry ↔ runOut s.dock.resend) ∧
      (due .pageTimeout ↔
        ∃ x, (s.dock.exchange = some (.abilityWait x) ∨ s.dock.exchange = some (.routeWait x)) ∧ x.limit ≤ x.elapsed) ∧
      (due .ackTimerExpiry ↔ ∃ b, s.dock.outstanding = some b ∧ runOut b.timer) ∧
      (due .secondStep ↔ s.clock.state ≠ .unset ∧ s.clock.stepDue = true) ∧
      (due .pulseWatchExpiry ↔ s.clock.watchPresent = true ∧ ∃ n, s.clock.sincePulse = some n ∧ 2500 ≤ n)) ∧
    (due .vddGood ↔ (s.supply.monitor = .dip ∨ s.supply.monitor = .off) ∧ runOut s.supply.goodCount) ∧
    ∀ i, due i →
      (s.running = true ∨ i = .vddGood) ∧
        match i with
        | .muteHoldExpiry _ | .holdTimerExpiry _ | .gatherLimitExpiry _ | .dwellTimerExpiry _ | .guardComplete | .clearWaitExpiry
        | .burstEnd | .listenWindowExpiry | .dockSignalLoss | .pageTimeout | .ackTimerExpiry | .resendDelayExpiry | .secondStep
        | .pulseWatchExpiry | .streamStopped _ | .vanByteGapTimeout | .vddGood => True
        | _ => False

/-! ## Invariants that every step keeps -/

/-- No due cause waits while the outbound queue has a free place (R180, R183). -/
def Obligations.SettledIsKept : Prop := ∀ s t : State, s.settled → step s = .next t → t.settled

/-- Every table and queue that has a stated capacity stays within it, and the revisit list holds stops of the table, none twice
(R24, R47, R60, R68, R72, R83, R110, R126, R150, R174, R180). -/
def Obligations.CapacityIsKept : Prop := ∀ s t : State, s.withinCapacity → step s = .next t → t.withinCapacity

/-- The record store keeps its unbroken run of sequence numbers and its order of upload states (R113, R114). -/
def Obligations.StoreOrderIsKept : Prop := ∀ s t : State, s.store.wellOrdered → step s = .next t → t.store.wellOrdered

/-- Every segment's status counters keep counting its stops (R42, R52), and the open order keeps holding exactly the OPEN segments
(R46, R47). -/
def Obligations.SegmentAccountsAreKept : Prop :=
  ∀ s t : State, step s = .next t →
    (s.route.countersExact → t.route.countersExact) ∧ (s.openOrderExact → t.openOrderExact)

/-- Polls sent keep adding up (R140). -/
def Obligations.PollAccountIsKept : Prop := ∀ s t : State, s.tx.accountHolds → step s = .next t → t.tx.accountHolds

/-- CH0 stays BLANKED exactly while the transmitter is keyed, and a channel stays OFF exactly while it is disabled (R9, R15). -/
def Obligations.BlankingIsKept : Prop := ∀ s t : State, s.blankingHolds → step s = .next t → t.blankingHolds

/-- IN_FLIGHT records keep standing for the outstanding block, and a block for UPLOADING (R152). -/
def Obligations.InFlightIsKept : Prop := ∀ s t : State, s.inFlightHolds → step s = .next t → t.inFlightHolds

/-- A stop keeps being HEARD exactly while one reading of it is in hand (R35, R43, R73). -/
def Obligations.InHandIsKept : Prop := ∀ s t : State, s.inHandHolds → step s = .next t → t.inHandHolds

/-- The machine right after reset meets every one of these invariants. -/
def Obligations.ResetMeetsInvariants : Prop :=
  State.reset.settled ∧ State.reset.withinCapacity ∧ State.reset.store.wellOrdered ∧ State.reset.route.countersExact ∧
    State.reset.openOrderExact ∧ State.reset.tx.accountHolds ∧ State.reset.blankingHolds ∧ State.reset.inFlightHolds ∧
    State.reset.inHandHolds

/-! ## Bodies and messages -/

/-- Every command's body, written by R202 and R208, is taken apart into that command again. -/
def Obligations.CommandBodiesRoundTrip : Prop :=
  ∀ c : Command, commandFits c = true → commandOf (commandKind c) (commandBody c) = some c

/-- The bytes of a command's message on a link do what the command's row does: framing, CRC, body and the holds of both links agree
with the rows (R150, R172 to R175). That a command row stands for its whole message, and an arrival row for its bytes, is the
model's reading of the rows (logs 7, 8, 9). -/
def Obligations.MessageBytesDoWhatTheRowDoes : Prop :=
  ∀ (i : Instr) (link : Link) (tag : Byte) (c : Command) (s : State),
    rowCommand i = some (link, tag, c) → commandFits c = true →
    s.van.rx.bytes = [] → s.dock.rx = [] →
    let bytes := Message.frame ⟨commandKind c, tag, commandBody c⟩
    exec i s = match link with
      | .van => exec (.vanMessageArrival bytes) s
      | .dock => exec (.dockMessageArrival bytes) s

/-! ## The reading check -/

/-- Stages 1 and 2 (R95 to R97): the range of the register, the previous reading, and the movement by the first row that applies. -/
def Obligations.CheckMovement : Prop :=
  ∀ c : Check,
    let f := c.findings
    let d := c.static.digits
    let new := c.entry.best.reading.toNat
    let later := f.hours = none ∧ f.rate = none ∧ f.ratio = none ∧ f.bands = .none
    if 10 ^ d ≤ new then f.movement = .none ∧ f.amount = 0 ∧ f.evidence.range = true ∧ f.category = .range ∧ later
    else
      match c.static.previous with
      | none => f.movement = .none ∧ f.amount = 0 ∧ f.evidence.noBase = true ∧ later
      | some old =>
        if old ≤ new then f.movement = .forward ∧ f.amount = new - old
        else if 9 * 10 ^ (d - 1) ≤ old ∧ new < 10 ^ (d - 1) then
          f.movement = .wrap ∧ f.amount = new + 10 ^ d - old ∧ f.evidence.wrap = true
        else if old - new ≤ c.profile.backTol then f.movement = .backstep ∧ f.amount = 0 ∧ f.evidence.backstep = true
        else f.movement = .backward ∧ f.amount = old - new ∧ f.evidence.rollback = true ∧ later

/-- Stages 3 and 4 (R98 to R101): the whole hours, the rate rounded to the nearest whole number, the truncated ratio and the bands. -/
def Obligations.CheckTimeAndRate : Prop :=
  ∀ c : Check,
    let f := c.findings
    let first := c.entry.firstHeard
    let hours : Int := ((first.day : Int) - c.static.previousDay) * 24 + (first.second / 3600 : Nat) - c.static.previousHour
    let timed := first.state ≠ .unset ∧ 0 < hours
    (f.movement = .forward ∨ f.movement = .wrap ∨ f.movement = .backstep) →
      (f.hours = if timed then some (min 65535 hours.toNat) else none) ∧ (f.evidence.noTime = true ↔ ¬timed) ∧
      (f.evidence.longGap = true ↔ timed ∧ 65535 < hours) ∧
      match f.hours with
      | none => f.rate = none ∧ f.ratio = none ∧ f.bands = .none ∧ f.evidence.rateSat = false ∧ f.evidence.noExpect = false
      | some h =>
        let quotient := f.amount * 2400 / h
        let remainder := f.amount * 2400 % h
        let rounded := if h ≤ 2 * remainder then quotient + 1 else quotient
        let q := min 4294967295 rounded
        let expected := c.static.expected
        let p := if expected = 0 then (if q = 0 then 0 else 9999) else min 9999 (q * 100 / expected)
        f.rate = some q ∧ (f.evidence.rateSat = true ↔ 4294967295 < rounded) ∧ f.ratio = some p ∧
          (f.evidence.noExpect = true ↔ expected = 0 ∧ q ≠ 0) ∧
          (f.bands.low = true ↔ p < c.profile.lowPct) ∧ (f.bands.high = true ↔ c.profile.highPct < p) ∧
          (f.bands.extreme = true ↔ c.profile.extremePct < p) ∧
          (f.bands.zero = true ↔ f.amount = 0 ∧ c.profile.zeroHours ≠ 0 ∧ c.profile.zeroHours ≤ h)

/-- Stage 5 (R102, R103): the evidence set, every member present by its own condition and absent where its stage did not run,
and the category as the highest-numbered one whose condition holds. -/
def Obligations.CheckEvidenceAndCategory : Prop :=
  ∀ c : Check,
    let f := c.findings
    let e := c.entry
    let inRange := c.entry.best.reading.toNat < 10 ^ c.static.digits
    let first := e.firstHeard
    let hours : Int := ((first.day : Int) - c.static.previousDay) * 24 + (first.second / 3600 : Nat) - c.static.previousHour
    let stage3 := f.movement = .forward ∨ f.movement = .wrap ∨ f.movement = .backstep
    let timed := first.state ≠ .unset ∧ 0 < hours
    let holds : Category → Prop := fun k =>
      match k with
      | .normal => True
      | .unconfirmed => f.evidence.unconfirmed = true
      | .backstep => f.movement = .backstep
      | .low => f.bands.low = true
      | .zero => f.bands.zero = true
      | .high => f.bands.high = true
      | .extreme => f.bands.extreme = true
      | .leak => f.evidence.leak = true
      | .noTime => f.evidence.noTime = true
      | .noBase => f.evidence.noBase = true
      | .reverse => f.evidence.reverse = true
      | .cover => f.evidence.cover = true
      | .magnet => f.evidence.magnet = true
      | .conflict => f.evidence.conflict = true
      | .rollback => f.movement = .backward
      | .range => f.evidence.range = true
    f.evidence.magnet = e.union.magnet ∧ f.evidence.cover = e.union.cover ∧ f.evidence.reverse = e.union.reverse ∧
      f.evidence.leak = e.union.leak ∧ f.evidence.battLow = e.union.battLow ∧ f.evidence.alarm = e.alarm ∧
      f.evidence.conflict = e.conflict ∧ f.evidence.polled = e.polled ∧ f.evidence.followup = e.followup ∧
      (f.evidence.unconfirmed = true ↔ ∃ x, e.final = some x ∧ x.confirmed = false) ∧
      (f.evidence.late = true ↔ e.prior = .missed) ∧ (f.evidence.range = true ↔ ¬inRange) ∧
      (f.evidence.noBase = true ↔ inRange ∧ c.static.previous = none) ∧ (f.evidence.wrap = true ↔ f.movement = .wrap) ∧
      (f.evidence.backstep = true ↔ f.movement = .backstep) ∧ (f.evidence.rollback = true ↔ f.movement = .backward) ∧
      (f.evidence.noTime = true ↔ stage3 ∧ ¬timed) ∧ (f.evidence.longGap = true ↔ stage3 ∧ timed ∧ 65535 < hours) ∧
      (f.evidence.rateSat = true ↔ ∃ h, f.hours = some h ∧ 4294967295 < (f.amount * 2400 + h / 2) / h) ∧
      (f.evidence.noExpect = true ↔ ∃ q, f.rate = some q ∧ c.static.expected = 0 ∧ q ≠ 0) ∧
      holds f.category ∧ ∀ k : Category, holds k → k.code ≤ f.category.code

/-- The check keeps every quantity within its range for every stop that LOAD_STOPS accepts (R106). -/
def Obligations.CheckBounds : Prop :=
  ∀ c : Check, 4 ≤ c.static.digits → c.static.digits ≤ 9 →
    (∀ old, c.static.previous = some old → old < 10 ^ c.static.digits) →
    let f := c.findings
    f.amount < 10 ^ c.static.digits ∧
      (∀ h, f.hours = some h → 1 ≤ h ∧ h ≤ 65535 ∧ f.amount * 2400 + h / 2 < 2 ^ 42) ∧
      (∀ q, f.rate = some q → q ≤ 4294967295) ∧ (∀ p, f.ratio = some p → p ≤ 9999)

/-! ## Receive channels -/

/-- A symbol that arrives in HUNT is compared, with the three before it, against the sync pattern 0xC, 0x3, 0x9, 0x6: a match with
carrier present begins an attempt, and any other symbol is remembered, with the two before it, for the next comparison. Outside HUNT
a symbol only shows that the symbol clock runs. Each edge starts the 2 ms of the stream-stop watch anew. Symbols act one after
another, so that the pattern after an entry to HUNT is a sync detection (R4, R5). A good header leads on to BODY (R6). That the
attempt keeps the carrier setting it began with is R17 as the model reads it (log 13). -/
def Obligations.AttemptBegins : Prop :=
  ∀ (ch : ChannelNo) (x : Nibble) (more : List Nibble) (length complement : Byte) (r : CarrierRule) (s : State), s.running = true →
    let c := s.channels[ch]
    let last := c.recent ++ [x]
    let header : Channel := { c with
      stream := some ⟨0, 2⟩, decoder := .header ⟨c.entry.cdUsed, c.entry.cdHigh⟩ }
    (∃ t, exec (.syncDetection ch [x]) s = .next t ∧
      (if c.decoder = .hunt ∧ last = [0xC, 0x3, 0x9, 0x6] ∧ c.carrier = true then t.channels[ch] = header ∧ s.guardKept t
      else
        t.channels[ch] = { c with
          stream := some ⟨0, 2⟩
          recent := if c.decoder = .hunt then last.drop (last.length - 3) else c.recent } ∧
        t.tx = s.tx) ∧
      s.otherChannels ch t ∧ s.changesOnly t [] [.channels, .tx] ∧
      exec (.syncDetection ch (x :: more)) s = exec (.syncDetection ch more) t) ∧
    (c.decoder = .hunt → c.recent = [] → c.carrier = true →
      ∃ t, exec (.syncDetection ch [0xC, 0x3, 0x9, 0x6]) s = .next t ∧
        t.channels[ch] = { header with recent := [0xC, 0x3, 0x9] } ∧ s.guardKept t ∧ s.otherChannels ch t ∧
        s.changesOnly t [] [.channels, .tx]) ∧
    (s.channels[ch].decoder = .header r → complement = ~~~length → 14 ≤ length.toNat → length.toNat ≤ 30 →
      ∃ t, exec (.headerComplete ch length complement) s = .next t ∧
        t.channels[ch] = { s.channels[ch] with stream := some ⟨0, 2⟩, decoder := .body r length.toNat } ∧
        s.otherChannels ch t ∧ s.changesOnly t [] [.channels])

/-- Every way an attempt ends (R6 to R8): back to HUNT with the symbols before it forgotten (R5), CDn or the stopped stream as the
row that ended it says (R4; that CDn moves to the level which the carrier rule of the attempt in progress reads as absent, and that
this rule decides whether the loss ends the attempt, is log 13), the outcome in the counters (R18) and in the quality window (R12),
at the 64th attempt the close by R13 with the pending entry adopted, CHANNEL_STATE for a change of state, and the frame handed on
when the outcome is CLEAN or CORRECTED and the channel state afterwards is ACTIVE or DEGRADED (R10). That the row carries the level
samples and that the tag is the one after the adoption are the model's readings (logs 12, 14). -/
def Obligations.AttemptEnds : Prop :=
  ∀ (i : Instr) (s : State) (ch : ChannelNo) (o : DecodeOutcome), s.running = true → s.ends i = some (ch, o) →
    ∃ t, exec i s = .next t ∧
      let c := s.channels[ch]
      let d := t.channels[ch]
      let attempts := c.window.attempts + 1
      let errors := c.window.errors + (if o = .uncorrectable ∨ o = .checkFail then 1 else 0)
      let closes := 64 ≤ attempts
      let new : ChannelState :=
        if closes then
          if (c.state = .active ∨ c.state = .degraded) ∧ c.entry.mute ≤ errors then .muted
          else if c.state = .active ∧ c.entry.degrade ≤ errors then .degraded
          else if c.state = .degraded ∧ errors ≤ c.entry.recover then .active
          else c.state
        else c.state
      let changed := new ≠ c.state
      let counted := c.counters.count o
      d.decoder = .hunt ∧ d.recent = [] ∧ d.state = new ∧
        (d.cdPin = match i with | .carrierLoss _ => !c.rule.cdHigh | _ => c.cdPin) ∧
        (d.stream = match i with | .carrierLoss _ => c.stream | .streamStopped _ => none | _ => some ⟨0, 2⟩) ∧
        (d.window = if closes then ⟨0, 0⟩ else ⟨attempts, errors⟩) ∧
        (d.entry = if closes then c.pendingEntry.getD c.entry else c.entry) ∧
        (d.pendingEntry = if closes then none else c.pendingEntry) ∧
        (d.muteHold = if changed ∧ new = .muted then some ⟨0, 10000⟩ else c.muteHold) ∧
        (d.counters = if changed then
            { counted with
              stateChanges := counted.stateChanges + 1
              wasDegraded := counted.wasDegraded || new == .degraded
              wasMuted := counted.wasMuted || new == .muted }
          else counted) ∧
        (match i with
          | .blockComplete _ fec body _ levels =>
            if (o = .clean ∨ o = .corrected) ∧ (new = .active ∨ new = .degraded) then
              ∃ f, t.capture = { s.capture with handedOn := s.capture.handedOn ++ [f] } ∧ f.channel = ch ∧ f.tag = d.entry.tag ∧
                (f.fromActive = true ↔ new = .active) ∧ f.corrections = fecCorrections fec ∧
                f.level = levels.foldl (fun m x => max m x.toNat) 0 ∧ frameKindOf (byteAt body 0) = some f.kind ∧
                f.meterId = word32 (byteAt body 1) (byteAt body 2) (byteAt body 3) (byteAt body 4) ∧
                f.reading = word32 (byteAt body 5) (byteAt body 6) (byteAt body 7) (byteAt body 8) ∧
                f.flags = .ofByte (byteAt body 9) ∧ f.sequence = byteAt body 10 ∧
                f.token = if f.kind = .reply then some (byteAt body 11) else none
            else t.capture = s.capture
          | _ => t.capture = s.capture) ∧
        s.otherChannels ch t ∧ s.guardKept t ∧
        s.changesOnly t (if changed then [(.channelState, u8 ch.val ++ u8 c.state.code ++ u8 new.code)] else [])
          [.channels, .capture, .tx]

/-- CDn takes a level, in every state of the part (R4): the one that the rule in force, or that of an attempt in progress, reads as
carrier present or absent, also where CD is not used (the model's reading of the rows, log 13). Beside that, carrier present returns
the guard time to zero where CH0 uses CD (R133), carrier absent ends no attempt that does not read CD (R8), and a stream stops once
no edge has come for 2 ms, which outside an attempt ends none; before that the row does nothing (log 4). The mute hold expires
(R14): DEGRADED, a fresh window, the pending entry adopted, one change of state (R18). -/
def Obligations.ChannelEventsOutsideAttempts : Prop :=
  ∀ (ch : ChannelNo) (watch hold : Timer) (s : State),
    (∃ t, exec (.carrierPresent ch) s = .next t ∧
      t.channels[ch] = { s.channels[ch] with cdPin := s.channels[ch].rule.cdHigh } ∧ s.otherChannels ch t ∧
      (if s.running = true then s.guardKept t ∧ s.changesOnly t [] [.channels, .tx] else s.frame [.channels] t)) ∧
    (¬(s.running = true ∧ s.channels[ch].losesCarrier = true) →
      ∃ t, exec (.carrierLoss ch) s = .next t ∧
        t.channels[ch] = { s.channels[ch] with cdPin := !s.channels[ch].rule.cdHigh } ∧ s.otherChannels ch t ∧
        s.changesOnly t [] [.channels]) ∧
    (s.running = true → s.channels[ch].stream = some watch →
      (watch.limit ≤ watch.elapsed → s.channels[ch].decoder.inProgress = false →
        ∃ t, exec (.streamStopped ch) s = .next t ∧
          t.channels[ch] = { s.channels[ch] with stream := none } ∧ s.otherChannels ch t ∧
          s.changesOnly t [] [.channels]) ∧
      (watch.elapsed < watch.limit → ∃ t, exec (.streamStopped ch) s = .next t ∧ s.changesOnly t [] [])) ∧
    (s.running = true → s.channels[ch].state = .muted → s.channels[ch].muteHold = some hold → hold.limit ≤ hold.elapsed →
      ∃ t, exec (.muteHoldExpiry ch) s = .next t ∧
        t.channels[ch] = { s.channels[ch] with
          state := .degraded
          window := ⟨0, 0⟩
          muteHold := none
          entry := s.channels[ch].pendingEntry.getD s.channels[ch].entry
          pendingEntry := none
          counters := { s.channels[ch].counters with
            stateChanges := s.channels[ch].counters.stateChanges + 1, wasDegraded := true } } ∧
        s.otherChannels ch t ∧ s.guardKept t ∧
        s.changesOnly t [(.channelState, u8 ch.val ++ [3, 2])] [.channels, .tx])

/-- SET_CHANNEL (R15 to R17): a change of enabled acts at once and is a change of state, an entry for an enabled channel waits,
one for an OFF channel is in force at once. A field outside its range, or thresholds out of order, is refused BAD_VALUE with the
first such field and changes nothing (the field of an ordering and the order of the tests, log 18). -/
def Obligations.SetChannelWrites : Prop :=
  ∀ (tag : Byte) (b : SetChannelBody) (s : State), s.ready →
    let fits := b.channel.toNat ≤ 3 ∧ b.enabled.toNat ≤ 1 ∧ b.cdUsed.toNat ≤ 1 ∧ b.cdPolarity.toNat ≤ 1 ∧ b.tag.toNat ≤ 15 ∧
      b.degrade.toNat ≤ 64 ∧ b.mute.toNat ≤ 64 ∧ b.recover.toNat ≤ 64 ∧ b.degrade.toNat ≤ b.mute.toNat ∧
      b.recover.toNat < b.degrade.toNat
    (∀ ch : ChannelNo, ch.val = b.channel.toNat → fits →
      let c := s.channels[ch]
      let e : PlanEntry := ⟨b.enabled == 1, b.cdUsed == 1, b.cdPolarity == 0, b.tag.toNat, b.degrade.toNat, b.mute.toNat,
        b.recover.toNat⟩
      let changes := { c.counters with stateChanges := c.counters.stateChanges + 1 }
      ∃ t, exec (.setChannel tag b) s = .next t ∧
        (t.channels[ch] = match c.entry.enabled, e.enabled with
          | true, true => { c with pendingEntry := some e }
          | false, false => { c with entry := e, pendingEntry := none }
          | true, false =>
            { c with entry := e, pendingEntry := none, state := .off, decoder := .off, window := ⟨0, 0⟩, muteHold := none,
                     counters := changes }
          | false, true =>
            { c with entry := e, pendingEntry := none, state := .active, window := ⟨0, 0⟩, muteHold := none, counters := changes,
                     recent := [], decoder := if ch = 0 ∧ s.tx.state.isKeyed = true then .blanked else .hunt }) ∧
        s.otherChannels ch t ∧ s.guardKept t ∧
        s.completes t 0x10 tag (.ok [])
          (if c.entry.enabled = e.enabled then []
            else [(.channelState, u8 ch.val ++ u8 c.state.code ++ u8 (if e.enabled then 1 else 0))])
          [.channels, .tx]) ∧
    (¬fits → ∃ t, exec (.setChannel tag b) s = .next t ∧
      let field : Byte :=
        if 3 < b.channel.toNat then 0 else if 1 < b.enabled.toNat then 1 else if 1 < b.cdUsed.toNat then 2
        else if 1 < b.cdPolarity.toNat then 3 else if 15 < b.tag.toNat then 4 else if 64 < b.degrade.toNat then 5
        else if 64 < b.mute.toNat then 6 else 7
      s.completes t 0x10 tag (.refused .badValue [field]) [] [])

/-! ## Capture -/

/-- A frame that opens and joins no entry, by the table of R65: no route, foreign, skipped, duplicate, late copy, or an ALARM for a
stop with two records. It steps its counter (R87); a foreign meter enters the foreign list at its head (R68); a first foreign
sighting and an ALARM beyond the limit (R71) may send a report. -/
def Obligations.FrameIsCounted : Prop :=
  ∀ (ch : ChannelNo) (f : Frame) (counted : CaptureCounters) (s : State), s.running = true →
    s.capture.nextFrame ch = some f → s.tx.matches f = false →
    s.countedFrame f = some counted →
    let known := s.capture.foreign.find? (·.meterId == f.meterId)
    let report : Option Message :=
      match s.stopFor f with
      | none => if s.isForeign f ∧ known = none ∧ s.route.params.foreignReporting then some ⟨0x84, 0, foreignReportBody f s.stamp⟩ else none
      | some (i, p) =>
        if s.route.state = .active ∧ p.status ≠ .skipped ∧ p.status ≠ .heard ∧ isFollowup p f then
          some ⟨0x83, 0, alarmReportBody i p f s.stamp⟩
        else none
    ∃ t, exec (.captureFrame ch) s = .next t ∧
      t.capture = { s.capture with
        handedOn := s.capture.framesAfter ch
        counters := counted
        foreign := if s.isForeign f then s.foreignAfter f else s.capture.foreign } ∧
      s.frame [.capture, .van] t ∧
      match report with
      | none => s.changesOnly t [] [.capture]
      | some m =>
        if s.van.outbound.length < 56 then
          (∃ notices, t.van.outbound = s.van.outbound ++ m :: notices ∧ (∀ n ∈ notices, n.kind = 0x85) ∧
            s.van.pulsed notices.length t.van) ∧ s.raised t [] ∧
            s.van.sameLink t.van ∧ t.van.counters = s.van.counters
        else
          (∃ notices, t.van.outbound = s.van.outbound ++ notices ∧ (∀ n ∈ notices, n.kind = 0x85) ∧
            s.van.pulsed notices.length t.van) ∧ s.van.sameLink t.van ∧
          t.van.counters = { s.van.counters with reportsLost := satStep 65535 s.van.counters.reportsLost } ∧
            s.raised t [(.reportsLost, u8 m.kind.toNat ++ u16 t.van.counters.reportsLost)]

/-- A frame that opens an entry (R70, R72, R74): its stop becomes HEARD with its prior status, its queued poll is removed (R130),
and the new entry is tested (R79); beside the reply match (R135) nothing else of the transmitter changes. In a full table the oldest
GATHERING entry is finalised first, and the frame is lost where that frees no place (R86). -/
def Obligations.FrameOpensEntry : Prop :=
  ∀ (ch : ChannelNo) (f : Frame) (i : Nat) (p : Stop) (s : State), s.running = true → s.inHandHolds →
    s.capture.nextFrame ch = some f → s.route.state = .active → s.stopFor f = some (i, p) →
    (p.status = .unread ∨ p.status = .missed ∨ p.status = .recheck ∨
      ((p.status = .read ∨ p.status = .flagged) ∧ isFollowup p f = true ∧ p.recordCount < 2)) →
    let matched := s.tx.matches f
    let eligible : Bool := f.fromActive || matched
    let hold := s.route.params.holdTime
    let entry : Entry :=
      { stop := i, meterId := f.meterId, created := s.capture.nextCreation, prior := p.status, best := f,
        eligible := if eligible then 1 else 0, copies := 1, mask := 1#4 <<< ch.val, union := f.flags,
        alarm := f.kind == .alarm, conflict := false, polled := matched, followup := p.status == .read || p.status == .flagged,
        firstHeard := s.stamp, lastHeard := s.stamp, hold := ⟨0, 1000 * hold⟩, gather := ⟨0, 4000 * hold⟩, final := none }
    let taken : Capture := { s.capture with handedOn := s.capture.framesAfter ch }
    let oldest := s.capture.gatheringByAge.head?
    let evicted : Capture :=
      match oldest with
      | none => taken
      | some e =>
        { taken.handToCheck (e.finalised s.route.params.confirmCount taken.nextFinal) with
          nextFinal := taken.nextFinal + 1, counters := { taken.counters with evictions := taken.counters.evictions + 1 } }
    let full := 192 ≤ s.capture.heard.length
    let room := if full then evicted else taken
    let satisfied : State :=
      if matched then
        ({ s with tx := { s.tx with
          state := .idle, counters := { s.tx.counters with satisfied := s.tx.counters.satisfied + 1 } } } : State).refillScan
      else s
    ∃ t, exec (.captureFrame ch) s = .next t ∧
      t.tx.counters = (if matched then { s.tx.counters with satisfied := s.tx.counters.satisfied + 1 } else s.tx.counters) ∧
      (matched = true → t.tx.state = .idle) ∧
      (if room.heard.length < 192 then
        t.capture = ({ room with heard := room.heard ++ [entry], nextCreation := room.nextCreation + 1 } : Capture).tested
          s.route.params.confirmCount entry ∧
        t.route = { s.route with
          stops := s.route.stops.modify i fun q => { q with status := .heard, prior := some p.status }
          segments := s.route.segments.modify p.segment fun g =>
            { g with counts := (g.counts.mod (· - 1) p.status).mod (· + 1) .heard } } ∧
        t.tx = (({ satisfied with route := t.route } : State).removePolls (· == i)).tx ∧
        (∀ q ∈ t.tx.queue, q.stop ≠ i) ∧ (t.tx.state.onAir = false → t.tx.names i = false)
      else
        t.capture = { room with counters := { room.counters with overflow := room.counters.overflow + 1 } } ∧
        t.tx = satisfied.tx ∧ t.route = s.route) ∧
      s.changesOnly t [] [.capture, .route, .tx]

/-- A frame for a HEARD stop whose entry gathers joins it as a copy (R73, R75 to R78), and the entry is tested (R79). -/
def Obligations.CopyJoinsEntry : Prop :=
  ∀ (ch : ChannelNo) (f : Frame) (i : Nat) (p : Stop) (e : Entry) (s : State), s.running = true → s.inHandHolds →
    s.capture.nextFrame ch = some f → s.route.state = .active → s.stopFor f = some (i, p) → p.status = .heard →
    s.capture.gatheringFor i = some e →
    let matched := s.tx.matches f
    let ahead := (f.sequence.toNat + 256 - e.best.sequence.toNat) % 256
    let sameReading := f.reading = e.best.reading
    let better := f.corrections < e.best.corrections ∨ f.corrections = e.best.corrections ∧
      (e.best.level < f.level ∨ e.best.level = f.level ∧ f.channel.val < e.best.channel.val)
    let newBest := (1 ≤ ahead ∧ ahead ≤ 127) ∨ (ahead = 0 ∧ sameReading ∧ better)
    let wraps := 9 * 10 ^ (p.digits - 1) ≤ e.best.reading.toNat ∧ f.reading.toNat < 10 ^ (p.digits - 1)
    let conflicts := (ahead = 0 ∧ ¬sameReading) ∨ (1 ≤ ahead ∧ ahead ≤ 127 ∧ f.reading.toNat < e.best.reading.toNat ∧ ¬wraps)
    let joined : Entry :=
      { e with
        best := if newBest then f else e.best
        conflict := e.conflict || decide conflicts
        copies := satStep 65535 e.copies
        eligible := if f.fromActive = true ∨ matched = true then satStep 255 e.eligible else e.eligible
        mask := e.mask ||| 1#4 <<< ch.val
        union := e.union.union f.flags
        alarm := e.alarm || f.kind == .alarm
        polled := e.polled || matched
        lastHeard := s.stamp
        hold := ⟨0, 1000 * s.route.params.holdTime⟩ }
    ∃ t, exec (.captureFrame ch) s = .next t ∧
      t.capture = ({ s.capture with
        handedOn := s.capture.framesAfter ch
        heard := s.capture.heard.map fun x => if x.stop = i then joined else x } : Capture).tested s.route.params.confirmCount
          joined ∧
      t.tx.counters = (if matched then { s.tx.counters with satisfied := s.tx.counters.satisfied + 1 } else s.tx.counters) ∧
      (matched = false → t.tx = s.tx) ∧ s.changesOnly t [] [.capture, .tx]

/-- A REPLY with the meter ID and the token of the poll in LISTEN ends it as satisfied, whatever becomes of the frame (R65, R135).
One that opens and joins no entry steps its counter as any frame does (R87), and a refill scan follows the poll's end (R128). -/
def Obligations.ReplySatisfiesPoll : Prop :=
  ∀ (ch : ChannelNo) (f : Frame) (poll : PollEntry) (token : Byte) (cancelled : Bool) (window : Timer) (s : State),
    s.running = true → s.capture.nextFrame ch = some f → s.tx.state = .listen poll token cancelled window →
    f.kind = .reply → f.meterId = poll.meterId → f.token = some token →
    ∃ t, exec (.captureFrame ch) s = .next t ∧ t.tx.state = .idle ∧
      t.tx.counters = { s.tx.counters with satisfied := s.tx.counters.satisfied + 1 } ∧ t.tx.lastToken = s.tx.lastToken ∧
      t.tx.inhibit = s.tx.inhibit ∧ t.capture.handedOn = s.capture.framesAfter ch ∧ s.frame [.capture, .route, .tx, .van] t ∧
      ∀ counted, s.countedFrame f = some counted →
        t.capture = { s.capture with
          handedOn := s.capture.framesAfter ch
          counters := counted
          foreign := if s.isForeign f then s.foreignAfter f else s.capture.foreign } ∧
        t.tx = ({ s with tx := { s.tx with
          state := .idle, counters := { s.tx.counters with satisfied := s.tx.counters.satisfied + 1 } } } : State).refillScan.tx ∧
        t.route = s.route ∧ (s.isForeign f = false → s.changesOnly t [] [.capture, .tx])

/-- The hold timer and the gather limit finalise a GATHERING entry (R80, R81, R83): confirmed by the confirm count in force, next in
the finalisation order, into the check queue while it holds fewer than 16 and no entry waits before it. That the row acts once its
count has run out is the model's form of an expiry (log 4). -/
def Obligations.ExpiryFinalisesEntry : Prop :=
  ∀ (i : Nat) (e : Entry) (row : Instr) (s : State), s.running = true → s.inHandHolds → s.capture.gatheringFor i = some e →
    (row = .holdTimerExpiry i ∧ e.hold.limit ≤ e.hold.elapsed ∨ row = .gatherLimitExpiry i ∧ e.gather.limit ≤ e.gather.elapsed) →
    let done := { e with final := some ⟨decide (s.route.params.confirmCount ≤ e.eligible), s.capture.nextFinal⟩ }
    ∃ t, exec row s = .next t ∧
      t.capture = (if s.capture.queue.length < 16 ∧ (∀ x ∈ s.capture.heard, x.final = none) then
        { s.capture with
          heard := s.capture.heard.filter (·.stop ≠ i), queue := s.capture.queue ++ [done], nextFinal := s.capture.nextFinal + 1 }
      else
        { s.capture with
          heard := s.capture.heard.map fun x => if x.stop = i then done else x, nextFinal := s.capture.nextFinal + 1 }) ∧
      s.changesOnly t [] [.capture]

/-! ## Check engine and record store -/

/-- A check start takes the head of the check queue with its snapshot, and the place freed takes the first FINAL_WAIT entry (R84,
R91, R92). -/
def Obligations.CheckStartTakesHead : Prop :=
  ∀ (e : Entry) (rest : List Entry) (p : Stop) (fields : StopStatic) (s : State), s.running = true → s.check = none →
    s.capture.queue = e :: rest → s.route.stops[e.stop]? = some p → p.static = some fields →
    ∃ t, exec .checkStart s = .next t ∧
      t.check = some ⟨e, fields, s.route.profiles[Fin.ofNat 8 fields.profile], s.route.number⟩ ∧
      t.capture = (match s.capture.firstFinalWait with
        | none => { s.capture with queue := rest }
        | some w => { s.capture with heard := s.capture.heard.filter (· ≠ w), queue := rest ++ [w] }) ∧
      s.changesOnly t [] [.check, .capture]

/-- A completion whose append is not refused (R110 to R119, R44): the record, the store's counts, the stop and its segment, the
reports and notices, and the poll offered for a RECHECK. A dock link that waits for a record begins its upload with a block (R152,
R207); otherwise every older record keeps its upload state. REPORTS_LOST before the other notices of one commit is the model's order
(log 23). -/
def Obligations.CompletionAppends : Prop :=
  ∀ (c : Check) (p : Stop) (size : Nat) (s : State), s.running = true → s.check = some c →
    s.route.stops[c.entry.stop]? = some p → s.store.nextSequence ≠ 4294967295 →
    (s.store.records.length < 8192 ∨ s.store.records.head?.all (·.upload = .uploaded) = true) →
    let i := c.entry.stop
    let e := c.entry
    let f := c.findings
    let d := s.route.disposition[f.category.code]
    let r : Record :=
      { sequence := s.store.nextSequence, route := c.routeNumber, stop := i, meterId := c.static.meterId,
        segment := c.static.segment, kindTag := c.static.kindTag, reading := e.best.reading, firstHeard := e.firstHeard,
        movement := f.movement, amount := f.amount, hours := f.hours, rate := f.rate, ratio := f.ratio,
        category := f.category, recClass := d.recClass, evidence := f.evidence, copies := e.copies, eligible := e.eligible,
        mask := e.mask, bestLevel := e.best.level, bestCorrections := e.best.corrections, bestTag := e.best.tag,
        supersedes := if p.recordCount = 1 then p.latest.map (·.sequence) else none, upload := .pending }
    let full := 8192 ≤ s.store.records.length
    let settledStatus : Status := if d.recClass = .billing then .read else .flagged
    let asked := d.recheck = true ∧ p.recordCount = 0 ∧ e.followup = false
    let open_ := s.route.state = .active ∧ s.segmentState p.segment ≠ .closed
    let new : Status := if asked ∧ open_ then .recheck else settledStatus
    let level := d.report
    let uploads := s.dock.link = .ready ∧ s.dock.wanted = some true ∧ s.dock.suspended = false
    let appended : Store := { s.store with
      records := (if full then s.store.records.tail else s.store.records) ++ [r]
      nextSequence := s.store.nextSequence + 1, appends := s.store.appends + 1
      reclaims := if full then s.store.reclaims + 1 else s.store.reclaims }
    ∃ t, exec .checkCompletion s = .next t ∧ t.check = none ∧
      (uploads → s.dock.blockSize = some (size + 1) →
        ({ s with store := appended, dock := { s.dock with link := .uploading, runAcked := 0 } } : State).formsBlock t) ∧
      (¬uploads → t.store = appended ∧ t.dock = s.dock) ∧
      t.route = { s.route with
        stops := s.route.stops.set i { p with
          status := new, prior := none, recordCount := p.recordCount + 1, latest := some ⟨r.sequence, r.recClass, r.evidence⟩ }
        segments := s.route.segments.modify p.segment fun g =>
          { g with
            counts := (g.counts.mod (· - 1) p.status).mod (· + 1) new
            lapsed := if asked ∧ ¬open_ then satStep 65535 g.lapsed else g.lapsed
            late := if p.prior = some .missed then satStep 65535 g.late else g.late } } ∧
      t.tracker = { s.tracker with
        revisit := if p.prior = some .missed then s.tracker.revisit.filter (· ≠ i) else s.tracker.revisit } ∧
      (new ≠ .recheck → t.tx = s.tx) ∧ t.tx.state = s.tx.state ∧
      (new = .recheck → p.pollable = true → s.segmentState p.segment = .opened → p.attempts < s.route.params.pollLimit →
        s.tx.names i = false → s.tx.queue.length < 32 → (⟨i, p.meterId, .recheck⟩ : PollEntry) ∈ t.tx.queue) ∧
      (∃ notices, t.van.outbound = s.van.outbound ++
          (if level ≠ .none ∧ s.van.outbound.length < 56 then
            [⟨0x82, 0, u8 level.code ++ u8 new.code ++ r.full .pending⟩] else []) ++ notices ∧
        (∀ m ∈ notices, m.kind = 0x85) ∧ s.van.pulsed notices.length t.van) ∧
      t.van.counters = (if level ≠ .none ∧ 56 ≤ s.van.outbound.length then
        { s.van.counters with reportsLost := satStep 65535 s.van.counters.reportsLost } else s.van.counters) ∧
      s.raised t
        ((if level ≠ .none ∧ 56 ≤ s.van.outbound.length then
            [(Cause.reportsLost, u8 0x82 ++ u16 (satStep 65535 s.van.counters.reportsLost))] else []) ++
          (if level = .urgent then [(Cause.urgentRecord, u32 r.sequence ++ u16 i ++ u8 r.category.code.val)] else []) ++
          (if s.store.fill < s.route.params.storeHigh ∧ s.route.params.storeHigh ≤ t.store.fill then
            [(Cause.storeHigh, u16 t.store.fill ++ u16 s.route.params.storeHigh)] else []) ++
          (if s.segmentState p.segment = .opened ∧ 0 < s.outstanding p.segment ∧ t.outstanding p.segment = 0 then
            [(Cause.segmentComplete, u8 p.segment)] else [])) ∧
      s.van.sameLink t.van ∧ s.frame [.check, .store, .route, .tracker, .tx, .dock, .van] t

/-- A completion whose append is refused (R110, R113, R120): no record, the stop returned from HEARD by the table of R45,
STORE_FULL, and the refill scan that follows a return to UNREAD, MISSED or RECHECK (R128). That SEQUENCE comes before FULL where
both refuse is read from R113 (log 29). -/
def Obligations.CompletionDiscards : Prop :=
  ∀ (c : Check) (p : Stop) (s : State), s.running = true → s.check = some c → s.route.stops[c.entry.stop]? = some p →
    let exhausted := s.store.nextSequence = 4294967295
    (exhausted ∨ 8192 ≤ s.store.records.length ∧ s.store.records.head?.any (·.upload ≠ .uploaded) = true) →
    let i := c.entry.stop
    let segment := s.segmentState p.segment
    let ended := segment = .closed ∨ s.route.state = .retired
    let settledStatus : Status := if p.latest.any (·.recClass = .billing) then .read else .flagged
    let new : Status :=
      match p.prior with
      | some .missed => .missed
      | some .read => .read
      | some .flagged => .flagged
      | some .recheck => if ended then settledStatus else .recheck
      | _ => if segment = .closed then .missed else .unread
    let lapses := p.prior = some .recheck ∧ ended
    ∃ t, exec .checkCompletion s = .next t ∧ t.check = none ∧ t.store = { s.store with drops := s.store.drops + 1 } ∧
      t.route = { s.route with
        stops := s.route.stops.set i { p with status := new, prior := none }
        segments := s.route.segments.modify p.segment fun g =>
          { g with
            counts := (g.counts.mod (· - 1) p.status).mod (· + 1) new
            lapsed := if lapses then satStep 65535 g.lapsed else g.lapsed } } ∧
      t.tracker = { s.tracker with
        revisit := if new = .missed ∧ i ∉ s.tracker.revisit then s.tracker.revisit ++ [i] else s.tracker.revisit } ∧
      t.tx = (if new = .unread ∨ new = .missed ∨ new = .recheck then
        ({ s with route := t.route, tracker := t.tracker } : State).refillScan.tx else s.tx) ∧ t.tx.state = s.tx.state ∧
      s.changesOnly t
        ((Cause.storeFull, u8 (if exhausted then 1 else 0) ++ u16 i ++ u8 c.findings.category.code.val ++ u16 s.store.fill) ::
          (if segment = .opened ∧ 0 < s.outstanding p.segment ∧ t.outstanding p.segment = 0 then
            [(Cause.segmentComplete, u8 p.segment)] else []))
        [.check, .store, .route, .tracker, .tx]

/-! ## Route book -/

/-- The commands that begin, shape, end and give up a load, on either link (R24, R27, R29, R31), and the clearing of a retired route
(R35), with what each refuses and in which order (R23, R28). An EMPTY route keeps the settings alone. Where a clearing finds
readings in hand and a poll on the air at once, that its detail names the readings is the model's choice (log 34). -/
def Obligations.LoadCommandsAct : Prop :=
  ∀ (link : Link) (tag : Byte) (b : LoadBeginBody) (g : LoadSegmentBody) (first : Word16) (record : StopRecord) (s : State),
    let emptied : Route := { s.route with
      state := .empty, number := 0, shiftDay := 0, owner := none, loadedBy := none, stops := [], segments := [], index := none }
    (s.linkReady link → s.route.state = .empty → 1 ≤ b.stops.toNat → b.stops.toNat ≤ 4096 → 1 ≤ b.segments.toNat →
      b.segments.toNat ≤ 256 →
      ∃ t, exec (.loadBegin link tag b) s = .next t ∧
        t.route = { s.route with
          state := .loading, number := b.route.toNat, shiftDay := b.shiftDay.toNat, owner := some link, loadedBy := some link
          stops := List.replicate b.stops.toNat ⟨none, .unread, none, 0, 0, none⟩
          segments := List.replicate b.segments.toNat ⟨.pending, 0, 0, .close, 0, ⟨0, 0, 0, 0, 0, 0, 0⟩, 0, 0⟩
          index := none } ∧
        t.tracker = ⟨[], []⟩ ∧ s.linkCompletes t link 0x01 tag (.ok (u16 b.route.toNat)) [] [.route, .tracker]) ∧
    (s.linkReady link → s.route.state = .loading → s.route.owner = some link →
      g.segment.toNat < s.route.segments.length →
      (g.dwellLimit.toNat = 0 ∨ 10 ≤ g.dwellLimit.toNat ∧ g.dwellLimit.toNat ≤ 3600) → g.dwellMode.toNat ≤ 1 →
      ∃ t, exec (.loadSegment link tag g) s = .next t ∧
        t.route = { s.route with
          segments := s.route.segments.modify g.segment.toNat fun x =>
            { x with dwellLimit := g.dwellLimit.toNat, dwellMode := if g.dwellMode = 0 then .close else .warn } } ∧
        s.linkCompletes t link 0x03 tag (.ok []) [] [.route]) ∧
    (s.linkReady link → s.route.state = .loading → s.route.owner = some link →
      (∀ p ∈ s.route.stops, p.static.isSome = true) → (s.route.stops.map Stop.meterId).Nodup →
      ∃ t, exec (.loadEnd link tag) s = .next t ∧ t.route = { s.route with state := .activating, owner := none } ∧
        s.linkCompletes t link 0x04 tag (.ok []) [] [.route]) ∧
    (s.linkReady link → s.route.state = .loading → (link = .van ∨ s.route.owner = some link) →
      ∃ t, exec (.loadAbort link tag) s = .next t ∧ t.route = emptied ∧ t.tracker = ⟨[], []⟩ ∧
        s.linkCompletes t link 0x05 tag (.ok []) [] [.route, .tracker]) ∧
    (s.ready → s.route.state = .retired → s.inHand = [] → s.tx.state.onAir = false →
      ∃ t, exec (.clearRoute tag) s = .next t ∧ t.route = emptied ∧ t.tracker = ⟨[], []⟩ ∧
        s.completes t 0x07 tag (.ok []) [] [.route, .tracker]) ∧
    (s.linkReady link → (s.route.state = .loading → s.route.owner = some link) →
      let refused (i : Instr) (kind : Byte) (code : RefusalCode) (detail : List Byte) : Prop :=
        ∃ t, exec i s = .next t ∧ s.linkCompletes t link kind tag (.refused code detail) [] []
      let state : List Byte := [0, BitVec.ofNat 8 s.route.state.code]
      let stopsFit := 1 ≤ b.stops.toNat ∧ b.stops.toNat ≤ 4096
      let limitFits := g.dwellLimit.toNat = 0 ∨ 10 ≤ g.dwellLimit.toNat ∧ g.dwellLimit.toNat ≤ 3600
      let ids := s.route.stops.map Stop.meterId
      let again (later earlier : Nat) : Prop := earlier < later ∧ later < ids.length ∧ ids[earlier]? = ids[later]?
      (s.route.state ≠ .empty → refused (.loadBegin link tag b) 0x01 .wrongState state) ∧
      (s.route.state = .empty → ¬stopsFit → refused (.loadBegin link tag b) 0x01 .badValue [2]) ∧
      (s.route.state = .empty → stopsFit → ¬(1 ≤ b.segments.toNat ∧ b.segments.toNat ≤ 256) →
        refused (.loadBegin link tag b) 0x01 .badValue [3]) ∧
      (s.route.state ≠ .loading →
        refused (.loadStops link tag first [record]) 0x02 .wrongState state ∧ refused (.loadSegment link tag g) 0x03 .wrongState state ∧
        refused (.loadEnd link tag) 0x04 .wrongState state ∧ refused (.loadAbort link tag) 0x05 .wrongState state) ∧
      (s.route.state = .loading →
        (s.route.segments.length ≤ g.segment.toNat → refused (.loadSegment link tag g) 0x03 .badValue [0]) ∧
        (g.segment.toNat < s.route.segments.length → ¬limitFits → refused (.loadSegment link tag g) 0x03 .badValue [1]) ∧
        (g.segment.toNat < s.route.segments.length → limitFits → 1 < g.dwellMode.toNat →
          refused (.loadSegment link tag g) 0x03 .badValue [2]) ∧
        (∀ i p, s.route.stops[i]? = some p → p.static = none → (∀ q ∈ s.route.stops.take i, q.static.isSome = true) →
          refused (.loadEnd link tag) 0x04 .count (u16 i ++ u16 (s.route.stops.countP (·.static.isSome)))) ∧
        ((∀ p ∈ s.route.stops, p.static.isSome = true) → ∀ later earlier, again later earlier →
          (∀ l e, again l e → later < l ∨ later = l ∧ earlier ≤ e) →
          refused (.loadEnd link tag) 0x04 .dupId (u16 later ++ u16 earlier)))) ∧
    (s.ready →
      let refused (i : Instr) (kind : Byte) (detail : List Byte) : Prop :=
        ∃ t, exec i s = .next t ∧ s.completes t kind tag (.refused .wrongState detail) [] []
      let state : List Byte := [0, BitVec.ofNat 8 s.route.state.code]
      (s.route.state ≠ .active → refused (.retireRoute tag) 0x06 state) ∧
      (s.route.state ≠ .retired → refused (.clearRoute tag) 0x07 state) ∧
      (s.route.state = .retired → s.inHand ≠ [] → refused (.clearRoute tag) 0x07 [4, 0]) ∧
      (s.route.state = .retired → s.inHand = [] → s.tx.state.onAir = true →
        refused (.clearRoute tag) 0x07 [3, BitVec.ofNat 8 s.tx.state.code]))

/-- LOAD_STOPS writes every record of a message whose records all pass (R25, R26), and none of one that holds an offending
record: the refusal names the position of the first such record and its first offending field in the order of R209. -/
def Obligations.LoadStopsWritesAllOrNone : Prop :=
  ∀ (link : Link) (tag : Byte) (first : Word16) (records : List StopRecord) (s : State), s.linkReady link →
    s.route.state = .loading → s.route.owner = some link → 1 ≤ records.length → records.length ≤ 16 →
    let sound (p : StopRecord) (i : Nat) : Prop :=
      i < s.route.stops.length ∧ p.meterId ≠ 0x00000000 ∧ p.meterId ≠ 0xFFFFFFFF ∧ p.segment.toNat < s.route.segments.length ∧
      4 ≤ p.digits.toNat ∧ p.digits.toNat ≤ 9 ∧ (p.previousPresent = true → p.previous.toNat < 10 ^ p.digits.toNat) ∧
      p.previousDay.toNat ≤ s.route.shiftDay ∧ p.previousHour.toNat ≤ 23
    let offence (p : StopRecord) (i : Nat) : Option Nat :=
      if s.route.stops.length ≤ i then some 0 else if p.meterId = 0x00000000 ∨ p.meterId = 0xFFFFFFFF then some 1
      else if s.route.segments.length ≤ p.segment.toNat then some 2 else if p.digits.toNat < 4 ∨ 9 < p.digits.toNat then some 3
      else if p.previousPresent = true ∧ 10 ^ p.digits.toNat ≤ p.previous.toNat then some 4
      else if s.route.shiftDay < p.previousDay.toNat then some 5 else if 23 < p.previousHour.toNat then some 6 else none
    let fields (p : StopRecord) : StopStatic :=
      { meterId := p.meterId, segment := p.segment.toNat, kindTag := p.kindTag.toNat, digits := p.digits.toNat,
        previous := if p.previousPresent then some p.previous.toNat else none, previousDay := p.previousDay.toNat,
        previousHour := p.previousHour.toNat, expected := p.expected.toNat, profile := p.profile.toNat, pollable := p.pollable }
    ((∀ x ∈ records.zipIdx first.toNat, sound x.1 x.2) →
      ∃ t, exec (.loadStops link tag first records) s = .next t ∧
        t.route = { s.route with
          stops := s.route.stops.mapIdx fun i q =>
            if first.toNat ≤ i then
              match records[i - first.toNat]? with
              | some p => { q with static := some (fields p) }
              | none => q
            else q } ∧
        s.linkCompletes t link 0x02 tag (.ok (u16 (t.route.stops.countP (·.static.isSome)))) [] [.route]) ∧
    (¬(∀ x ∈ records.zipIdx first.toNat, sound x.1 x.2) →
      ∃ t, exec (.loadStops link tag first records) s = .next t ∧
        ∃ position p field, records[position]? = some p ∧ offence p (first.toNat + position) = some field ∧
          (∀ x ∈ (records.take position).zipIdx first.toNat, sound x.1 x.2) ∧
          s.linkCompletes t link 0x02 tag (.refused .badValue (u8 position ++ u8 field)) [] [])

/-- The index build completes (R30, R33, R68): the route is ACTIVE, every stop UNREAD, every segment PENDING with its stops
counted, the foreign list empty, LOAD_DONE raised; and the meter index finds every stop. -/
def Obligations.ActivationCountsAndIndexes : Prop :=
  ∀ s : State, s.running = true → s.route.state = .activating →
    ∃ t, exec .indexBuildComplete s = .next t ∧
      t.route.state = .active ∧ t.route.number = s.route.number ∧ t.route.shiftDay = s.route.shiftDay ∧
      t.route.owner = s.route.owner ∧ t.route.profiles = s.route.profiles ∧ t.route.params = s.route.params ∧
      t.route.disposition = s.route.disposition ∧
      t.route.stops = s.route.stops.map (fun p => { p with status := .unread, prior := none }) ∧
      t.route.segments = (s.route.segments.mapIdx fun n g =>
        let count := s.route.stops.countP (·.segment == n)
        { g with state := .pending, stopCount := count, counts := ⟨count, 0, 0, 0, 0, 0, 0⟩ }) ∧
      ((s.route.stops.map Stop.meterId).Nodup → ∀ x ∈ s.route.stops.zipIdx, t.route.lookup x.1.meterId = some x.2) ∧
      t.capture = { s.capture with foreign := [] } ∧
      s.changesOnly t
        [(.loadDone, u16 s.route.number ++ u16 s.route.stops.length ++
          u8 (match s.route.loadedBy with | some .van => 0 | some .dock => 1 | none => 2))]
        [.capture, .route]

/-- RETIRE_ROUTE (R34): the OPEN segments close in open order by the close rule (R51), each with its counters, its UNREAD stops to
the tail of the revisit list and its SEGMENT_CLOSED (R54), whose first detail is that of the first close; then every remaining
gathering ends, oldest first (R82), the poll queue empties, and the route is RETIRED. -/
def Obligations.RetireRouteEndsTheShift : Prop :=
  ∀ (tag : Byte) (s : State), s.ready → s.route.state = .active → s.inHandHolds → s.openOrderExact →
    let wasOpen := s.tracker.openOrder
    let confirm := s.route.params.confirmCount
    let closed := wasOpen.foldl
      (fun c n => c.finalisedAll confirm (c.gatheringByAge.filter fun e => s.inSegment n e.stop)) s.capture
    let before := s.notice .segmentClosed
    ∃ t, exec (.retireRoute tag) s = .next t ∧
      t.route = { s.route with
        state := .retired
        segments := s.route.segments.mapIdx fun n g => if n ∈ wasOpen then s.closedSegment n g else g
        stops := s.route.stops.map fun p => if p.segment ∈ wasOpen then p.closed else p } ∧
      t.tracker = {
        openOrder := []
        revisit := s.tracker.revisit ++
          (wasOpen.flatMap fun n => s.stopsOf n .unread).filter (· ∉ s.tracker.revisit) } ∧
      t.capture = closed.finalisedAll confirm closed.gatheringByAge ∧ (∀ e ∈ t.capture.heard, e.final.isSome = true) ∧
      t.inHand.Perm s.inHand ∧ t.tx.queue = [] ∧
      t.tx.state = (match s.tx.state with | .clearing _ _ _ => .idle | other => other) ∧
      t.tx.counters = s.tx.counters ∧
      (∀ first rest, wasOpen = first :: rest →
        (t.notice .segmentClosed).pending = true ∧
        (t.notice .segmentClosed).count =
          (if before.pending then Nat.repeat (satStep 65535) wasOpen.length before.count
          else Nat.repeat (satStep 65535) rest.length 1) ∧
        (t.notice .segmentClosed).detail =
          (if before.pending then before.detail
          else some (u8 first ++ u8 2 ++ u16 (s.stopsOf first .unread).length ++ u16 (s.stopsOf first .recheck).length))) ∧
      (wasOpen = [] → s.raised t []) ∧
      (∀ c : Cause, c ≠ .segmentClosed → (t.notice c).pending = (s.notice c).pending ∧ (t.notice c).count = (s.notice c).count) ∧
      s.replies t 0x06 tag (.ok []) ∧ s.frame [.capture, .route, .tracker, .tx, .van] t

/-- SET_PROFILE, SET_DISPOSITION and SET_ROUTE_PARAMS from the van link at any time, and from the dock link within its own load (R37
to R40, R109). A field outside its range, or values out of order, is refused BAD_VALUE with the first such field (the order of the
fields in the tests is log 18). New route parameters remove the polls that a lowered poll limit reaches (R130) and are followed by a
refill scan (R128). -/
def Obligations.SettingsAreWritten : Prop :=
  ∀ (link : Link) (tag : Byte) (f : SetProfileBody) (d : SetDispositionBody) (q : SetRouteParamsBody) (s : State), s.linkReady link →
    (link = .van ∨ s.route.state = .loading ∧ s.route.owner = some .dock) →
    (f.profile.toNat ≤ 7 → f.lowPct.toNat ≤ f.highPct.toNat → f.highPct.toNat ≤ f.extremePct.toNat → f.extremePct.toNat ≤ 9999 →
      ∃ t, exec (.setProfile link tag f) s = .next t ∧
        t.route = { s.route with
          profiles := s.route.profiles.set (Fin.ofNat 8 f.profile.toNat)
            ⟨f.lowPct.toNat, f.highPct.toNat, f.extremePct.toNat, f.zeroHours.toNat, f.backTol.toNat⟩ } ∧
        s.linkCompletes t link 0x11 tag (.ok []) [] [.route]) ∧
    (∀ cls level, classOf d.recClass = some cls → reportOf d.report = some level → d.category.toNat ≤ 15 → d.recheck.toNat ≤ 1 →
      ∃ t, exec (.setDisposition link tag d) s = .next t ∧
        t.route = { s.route with
          disposition := s.route.disposition.set (Fin.ofNat 16 d.category.toNat) ⟨cls, level, d.recheck == 1⟩ } ∧
        s.linkCompletes t link 0x12 tag (.ok [d.category, d.recClass, d.report, d.recheck]) [] [.route]) ∧
    (1 ≤ q.confirmCount.toNat → q.confirmCount.toNat ≤ 8 → 2 ≤ q.holdTime.toNat → q.holdTime.toNat ≤ 60 →
      1 ≤ q.pollLimit.toNat → q.pollLimit.toNat ≤ 7 → 50 ≤ q.listenWindow.toNat → q.listenWindow.toNat ≤ 2000 →
      1 ≤ q.storeHigh.toNat → q.storeHigh.toNat ≤ 8192 → q.foreignReporting.toNat ≤ 1 →
      ∃ t, exec (.setRouteParams link tag q) s = .next t ∧
        t.route = { s.route with
          params := ⟨q.confirmCount.toNat, q.holdTime.toNat, q.pollLimit.toNat, q.listenWindow.toNat, q.storeHigh.toNat,
            q.foreignReporting == 1⟩ } ∧
        (let written : State := { s with route := t.route };
          t.tx = ((if q.pollLimit.toNat < s.route.params.pollLimit then
              written.dropPolls fun i => (s.route.stops[i]?).any fun p => decide (q.pollLimit.toNat ≤ p.attempts)
            else written).refillScan).tx) ∧
        s.linkCompletes t link 0x13 tag (.ok []) [] [.route, .tx]) ∧
    (let refused (i : Instr) (kind : Byte) (field : Option Byte) : Prop :=
      ∀ k, field = some k → ∃ t, exec i s = .next t ∧ s.linkCompletes t link kind tag (.refused .badValue [k]) [] []
    refused (.setProfile link tag f) 0x11
      (if 7 < f.profile.toNat then some 0 else if 9999 < f.highPct.toNat then some 2 else if 9999 < f.extremePct.toNat then some 3
      else if f.highPct.toNat < f.lowPct.toNat then some 2 else if f.extremePct.toNat < f.highPct.toNat then some 3 else none) ∧
    refused (.setDisposition link tag d) 0x12
      (if 15 < d.category.toNat then some 0 else if classOf d.recClass = none then some 1
      else if reportOf d.report = none then some 2 else if 1 < d.recheck.toNat then some 3 else none) ∧
    refused (.setRouteParams link tag q) 0x13
      (if q.confirmCount.toNat < 1 ∨ 8 < q.confirmCount.toNat then some 0
      else if q.holdTime.toNat < 2 ∨ 60 < q.holdTime.toNat then some 1
      else if q.pollLimit.toNat < 1 ∨ 7 < q.pollLimit.toNat then some 2
      else if q.listenWindow.toNat < 50 ∨ 2000 < q.listenWindow.toNat then some 3
      else if q.storeHigh.toNat < 1 ∨ 8192 < q.storeHigh.toNat then some 4
      else if 1 < q.foreignReporting.toNat then some 5 else none))

/-- A load belongs to the link that began it (R22, R23, R31, R40): the load commands of the other link are refused LOAD_OWNED, a
LOAD_ABORT of the van link excepted, and so are settings from the dock link; outside a load the dock link's settings are refused
WRONG_STATE. That SET_PROFILE and SET_ROUTE_PARAMS are so refused before their fields are tested, as R109 says of SET_DISPOSITION,
is the model's choice (log 35). -/
def Obligations.LoadOwnershipIsKept : Prop :=
  ∀ (link : Link) (tag : Byte) (b : LoadBeginBody) (g : LoadSegmentBody) (first : Word16) (p : StopRecord) (f : SetProfileBody)
    (d : SetDispositionBody) (q : SetRouteParamsBody) (s : State), s.linkReady link →
    let refusedAlone (i : Instr) (kind : Byte) (code : RefusalCode) (detail : List Byte) : Prop :=
      ∃ t, exec i s = .next t ∧ s.linkCompletes t link kind tag (.refused code detail) [] []
    let owner : List Byte := [match s.route.owner with | some .van => 0 | some .dock => 1 | none => 2]
    (s.route.state = .loading → s.route.owner ≠ some link →
      refusedAlone (.loadBegin link tag b) 0x01 .loadOwned owner ∧
      refusedAlone (.loadStops link tag first [p]) 0x02 .loadOwned owner ∧
      refusedAlone (.loadSegment link tag g) 0x03 .loadOwned owner ∧ refusedAlone (.loadEnd link tag) 0x04 .loadOwned owner ∧
      (link = .dock →
        refusedAlone (.loadAbort link tag) 0x05 .loadOwned owner ∧ refusedAlone (.setProfile link tag f) 0x11 .loadOwned owner ∧
        refusedAlone (.setDisposition link tag d) 0x12 .loadOwned owner ∧
        refusedAlone (.setRouteParams link tag q) 0x13 .loadOwned owner)) ∧
    (s.route.state ≠ .loading → link = .dock →
      let state : List Byte := [0, BitVec.ofNat 8 s.route.state.code]
      refusedAlone (.setProfile link tag f) 0x11 .wrongState state ∧
      refusedAlone (.setDisposition link tag d) 0x12 .wrongState state ∧
      refusedAlone (.setRouteParams link tag q) 0x13 .wrongState state)

/-! ## Route tracker -/

/-- OPEN_SEGMENT (R47 to R49): a PENDING or CLOSED segment joins the tail of the open order with its dwell timer at zero and a
refill scan; an OPEN one restarts its dwell timer; a fifth is refused, and so are a route that is not ACTIVE and a number beyond the
segments. -/
def Obligations.OpenSegmentActs : Prop :=
  ∀ (tag segment : Byte) (s : State), s.ready →
    (s.route.state ≠ .active → s.refuses (.openSegment tag segment) 0x20 tag .wrongState s.routeDetail) ∧
    (s.route.state = .active → s.route.segments.length ≤ segment.toNat →
      s.refuses (.openSegment tag segment) 0x20 tag .badValue [0]) ∧
    ∀ g : Segment, s.route.state = .active → s.route.segments[segment.toNat]? = some g →
    let n := segment.toNat
    let reply (position : Nat) : List Byte := u8 1 ++ u8 position ++ g.counterBytes
    (g.state = .opened →
      ∃ t, exec (.openSegment tag segment) s = .next t ∧
        t.route = { s.route with segments := s.route.segments.set n { g with dwellElapsed := 0 } } ∧
        s.completes t 0x20 tag (.ok (reply (s.tracker.openOrder.idxOf n))) [] [.route]) ∧
    (g.state ≠ .opened → s.tracker.openOrder.length < 4 → n ∉ s.tracker.openOrder →
      ∃ t, exec (.openSegment tag segment) s = .next t ∧
        t.route = { s.route with segments := s.route.segments.set n { g with state := .opened, dwellElapsed := 0 } } ∧
        t.tracker = { s.tracker with openOrder := s.tracker.openOrder ++ [n] } ∧
        t.tx = ({ s with route := t.route, tracker := t.tracker } : State).refillScan.tx ∧
        s.completes t 0x20 tag (.ok (reply s.tracker.openOrder.length)) [] [.route, .tracker, .tx]) ∧
    (g.state ≠ .opened → 4 ≤ s.tracker.openOrder.length →
      ∃ t, exec (.openSegment tag segment) s = .next t ∧
        s.completes t 0x20 tag (.refused .openLimit (s.tracker.openOrder.map (BitVec.ofNat 8))) [] [])

/-- CLOSE_SEGMENT (R50, R51, R54) with what it refuses, and the expiry of a dwell timer in its two modes (R56, R57). The close
finalises oldest first, which is the order of the creation numbers (R74, R82). -/
def Obligations.SegmentsClose : Prop :=
  ∀ (tag segment : Byte) (n : Nat) (g : Segment) (s : State), s.running = true →
    (s.ready → s.route.state ≠ .active → s.refuses (.closeSegment tag segment) 0x21 tag .wrongState s.routeDetail) ∧
    (s.ready → s.route.state = .active → s.route.segments.length ≤ segment.toNat →
      s.refuses (.closeSegment tag segment) 0x21 tag .badValue [0]) ∧
    (s.route.state = .active → s.route.segments[n]? = some g →
    let missed := u16 (s.stopsOf n .unread).length
    let lapsed := u16 (s.stopsOf n .recheck).length
    let gathering := s.capture.heard.filter (·.final.isNone)
    (s.ready → n = segment.toNat → g.state ≠ .opened →
      s.refuses (.closeSegment tag segment) 0x21 tag .wrongState [1, BitVec.ofNat 8 g.state.code]) ∧
    s.capture.gatheringByAge.Perm gathering ∧
    (gathering.Pairwise (fun x y => x.created ≠ y.created ∧ (y.created - x.created).toNat < 2147483648) →
      s.capture.gatheringByAge = gathering) ∧
    (s.inHandHolds → s.ready → g.state = .opened → n = segment.toNat →
      ∃ t, exec (.closeSegment tag segment) s = .next t ∧ s.closes t n ∧
        s.completes t 0x21 tag (.ok ((t.route.segments[n]?.map Segment.counterBytes).getD [] ++ missed))
          [(.segmentClosed, u8 n ++ u8 0 ++ missed ++ lapsed)] [.capture, .route, .tracker, .tx]) ∧
    (s.inHandHolds → g.state = .opened → g.dwellLimit ≠ 0 → 1000 * g.dwellLimit ≤ g.dwellElapsed →
      ∃ t, exec (.dwellTimerExpiry n) s = .next t ∧
        match g.dwellMode with
        | .close =>
          s.closes t n ∧
          s.changesOnly t [(.segmentDwell, u8 n ++ u8 0), (.segmentClosed, u8 n ++ u8 1 ++ missed ++ lapsed)]
            [.capture, .route, .tracker, .tx]
        | .warn =>
          t.route = { s.route with segments := s.route.segments.set n { g with dwellElapsed := 0 } } ∧
          s.changesOnly t [(.segmentDwell, u8 n ++ u8 1)] [.route]))

/-- SKIP_STOP (R58) and UNSKIP_STOP (R59): the status with its segment's counters, the revisit list, the polls, and
SEGMENT_COMPLETE; and what each refuses. -/
def Obligations.SkipAndUnskip : Prop :=
  ∀ (tag : Byte) (stop : Word16) (s : State), s.ready →
    (s.route.state ≠ .active →
      s.refuses (.skipStop tag stop) 0x22 tag .wrongState s.routeDetail ∧
      s.refuses (.unskipStop tag stop) 0x23 tag .wrongState s.routeDetail) ∧
    (s.route.state = .active → s.route.stops.length ≤ stop.toNat →
      s.refuses (.skipStop tag stop) 0x22 tag .badValue [0] ∧ s.refuses (.unskipStop tag stop) 0x23 tag .badValue [0]) ∧
    ∀ p : Stop, s.route.state = .active → s.route.stops[stop.toNat]? = some p →
    let i := stop.toNat
    let n := p.segment
    let moved (new : Status) : Route := { s.route with
      stops := s.route.stops.set i { p with status := new, prior := none }
      segments := s.route.segments.modify n fun g => { g with counts := (g.counts.mod (· - 1) p.status).mod (· + 1) new } }
    ((p.status = .unread ∨ p.status = .missed) →
      ∃ t, exec (.skipStop tag stop) s = .next t ∧ t.route = moved .skipped ∧
        t.tracker = { s.tracker with
          revisit := if p.status = .missed then s.tracker.revisit.filter (· ≠ i) else s.tracker.revisit } ∧
        t.tx = (({ s with route := t.route, tracker := t.tracker } : State).removePolls (· == i)).tx ∧
        s.completes t 0x22 tag (.ok (u8 6 ++ u8 n))
          (if s.segmentState n = .opened ∧ 0 < s.outstanding n ∧ t.outstanding n = 0 then [(.segmentComplete, u8 n)] else [])
          [.route, .tracker, .tx]) ∧
    ((p.status = .heard ∨ p.status = .read ∨ p.status = .flagged ∨ p.status = .recheck) →
      ∃ t, exec (.skipStop tag stop) s = .next t ∧
        s.completes t 0x22 tag (.refused .wrongState (u8 2 ++ u8 p.status.code)) [] []) ∧
    (p.status = .skipped →
      (∃ t, exec (.skipStop tag stop) s = .next t ∧ s.completes t 0x22 tag (.refused .already []) [] []) ∧
      ∃ t, exec (.unskipStop tag stop) s = .next t ∧
        (let new : Status := if s.segmentState n = .closed then .missed else .unread;
          t.route = moved new ∧
          t.tracker = { s.tracker with
            revisit := if new = .missed ∧ i ∉ s.tracker.revisit then s.tracker.revisit ++ [i] else s.tracker.revisit } ∧
          t.tx = ({ s with route := t.route, tracker := t.tracker } : State).refillScan.tx ∧
          s.completes t 0x23 tag (.ok (u8 new.code)) [] [.route, .tracker, .tx])) ∧
    (p.status ≠ .skipped →
      ∃ t, exec (.unskipStop tag stop) s = .next t ∧
        s.completes t 0x23 tag (.refused .wrongState (u8 2 ++ u8 p.status.code)) [] [])

/-! ## Poll transmitter -/

/-- A refill scan (R127): the OPEN segments in open order and in each its stops in ascending order; candidates alone, each once and
in that order, to the tail; none is passed over before the queue holds 32 entries. Nothing but the queue changes. -/
def Obligations.RefillScanFindsCandidates : Prop :=
  ∀ s : State,
    let candidate (i : Nat) : Prop :=
      s.route.state = .active ∧ ∃ p, s.route.stops[i]? = some p ∧ p.pollable = true ∧ s.segmentState p.segment = .opened ∧
        (p.status = .unread ∨ p.status = .missed ∨ p.status = .recheck) ∧ p.attempts < s.route.params.pollLimit ∧
        (∀ q ∈ s.tx.queue, q.stop ≠ i) ∧ ∀ q, s.tx.state.poll = some q → q.stop ≠ i
    let order := s.tracker.openOrder.flatMap fun n =>
      (List.range s.route.stops.length).filter fun i => (s.route.stops[i]?).any fun p => p.segment == n
    ∃ added : List PollEntry, s.refillScan = { s with tx := { s.tx with queue := s.tx.queue ++ added } } ∧
      (s.tx.queue.length ≤ 32 → (s.tx.queue ++ added).length ≤ 32) ∧
      (added.map (·.stop)).Nodup ∧ (added.map (·.stop)).Sublist order ∧
      (∀ q ∈ added, candidate q.stop ∧ ∃ p, s.route.stops[q.stop]? = some p ∧ q.meterId = p.meterId ∧
        q.origin = if p.status = .recheck then .recheck else .opened) ∧
      ∀ k i, order[k]? = some i → candidate i → i ∉ added.map (·.stop) →
        32 ≤ (s.tx.queue ++ added).length ∧ ∀ x ∈ added.map (·.stop), x ∈ order.take k

/-- A poll goes on the air (R132 to R135): taken from the head, keyed once CH0 has been clear for the guard time, with a fresh
token, CH0 BLANKED and the burst on TXD, each symbol as four bits, high bit first (R1, R200), and at the end of the burst in its
listen window with CH0 back in HUNT. That the frame's own preamble starts with 0x5 as the wake-up preamble does is the model's
choice (log 41). -/
def Obligations.PollGoesOnTheAir : Prop :=
  ∀ (q : PollEntry) (rest : List PollEntry) (guard : Nat) (timer : Timer) (token : Byte) (cancelled : Bool) (s : State),
    s.running = true →
    let c := s.channels[(0 : ChannelNo)]
    let nibbles (bytes : List Byte) : List Nibble := bytes.flatMap fun b => [b.extractLsb' 4 4, b.extractLsb' 0 4]
    let body : List Byte := 4 :: bytes32 q.meterId ++ [0, 0, 0, 0, 0, 0, s.tx.lastToken + 1, 0, 0]
    let burst : List Nibble :=
      (List.replicate 72 [0x5, 0xA]).flatten ++ [0xC, 0x3, 0x9, 0x6, 0x0, 0xE, 0xF, 0x1] ++ nibbles body ++
        nibbles (bytes16 (crc16 0x0000 body)) ++ (Config.checkSymbols body).toList
    (s.tx.state = .idle → s.tx.inhibit = false → s.tx.queue = q :: rest →
      ∃ t, exec .pollTake s = .next t ∧
        t.tx = ({ s with tx := { s.tx with state := .clearing q 0 ⟨0, 250⟩, queue := rest } } : State).refillScan.tx ∧
        t.tx.state = .clearing q 0 ⟨0, 250⟩ ∧ s.changesOnly t [] [.tx]) ∧
    (s.tx.state = .clearing q guard timer → 5 ≤ guard → c.decoder.inProgress = false →
      (c.entry.cdUsed = true → c.cdPin ≠ c.entry.cdHigh) →
      ∃ t, exec .guardComplete s = .next t ∧
        t.tx = { s.tx with
          state := .keyed q (s.tx.lastToken + 1) false ⟨0, 48⟩, lastToken := s.tx.lastToken + 1
          counters := { s.tx.counters with sent := s.tx.counters.sent + 1 } } ∧
        t.channels[(0 : ChannelNo)] = { c with decoder := if c.decoder = .off then .off else .blanked } ∧
        s.otherChannels 0 t ∧ t.txkey = .drive true ∧
        t.txd = .drive (some (burst.flatMap fun x => [x.getLsbD 3, x.getLsbD 2, x.getLsbD 1, x.getLsbD 0])) ∧
        s.changesOnly t [] [.tx, .channels]) ∧
    (s.tx.state = .keyed q token cancelled timer → timer.limit ≤ timer.elapsed →
      ∃ t, exec .burstEnd s = .next t ∧
        t.tx = { s.tx with state := .listen q token cancelled ⟨0, s.route.params.listenWindow⟩ } ∧
        t.channels[(0 : ChannelNo)] = { c with
          decoder := if c.decoder = .blanked then .hunt else c.decoder
          recent := if c.decoder = .blanked then [] else c.recent } ∧
        s.otherChannels 0 t ∧ t.txkey = .drive false ∧ t.txd = .drive none ∧ s.changesOnly t [] [.tx, .channels])

/-- A poll that found no clear air returns to the tail as busy (R133, R137); one that got no reply costs an attempt, and fails by
the first condition of R136 that holds or returns to the tail. Either way the transmitter is IDLE and a refill scan follows (R128). -/
def Obligations.PollReturnsOrFails : Prop :=
  ∀ (q : PollEntry) (guard : Nat) (timer : Timer) (token : Byte) (cancelled : Bool) (p : Stop) (s : State),
    s.running = true → timer.limit ≤ timer.elapsed →
    let k := s.tx.counters
    let returned := if s.tx.queue.length < 32 then s.tx.queue ++ [q] else s.tx.queue
    (s.tx.state = .clearing q guard timer →
      ∃ t, exec .clearWaitExpiry s = .next t ∧
        t.tx = ({ s with tx := { s.tx with
          state := .idle, queue := returned, counters := { k with busy := k.busy + 1 } } } : State).refillScan.tx ∧
        s.changesOnly t [] [.tx]) ∧
    (s.tx.state = .listen q token cancelled timer → s.route.stops[q.stop]? = some p →
      let attempts := satStep 7 p.attempts
      let reason : Option Nat :=
        if cancelled then some 0
        else if s.route.state ≠ .active ∨ s.segmentState p.segment ≠ .opened then some 1
        else if p.status ≠ .unread ∧ p.status ≠ .missed ∧ p.status ≠ .recheck then some 2
        else if s.route.params.pollLimit ≤ attempts then some 3
        else none
      ∃ t, exec .listenWindowExpiry s = .next t ∧
        t.route = { s.route with stops := s.route.stops.set q.stop { p with attempts := attempts } } ∧
        t.tx = ({ s with
          route := t.route
          tx := { s.tx with
            state := .idle
            queue := if reason = none then returned else s.tx.queue
            counters := { k with
              expired := k.expired + 1, failed := if reason = none then k.failed else k.failed + 1 } } } : State).refillScan.tx ∧
        s.changesOnly t
          (match reason with
            | none => []
            | some code =>
              [(.pollFailed, u16 q.stop ++ u32 q.meterId.toNat ++ u8 p.segment ++ u8 q.origin.code ++ u8 attempts ++ u8 code)])
          [.tx, .route])

/-- POLL_STOP by the tests of R129 in their order, and POLL_CANCEL by its tests and its three cases (R131). Where R129 refuses
without a coded state the detail is open (log 15), and where several grounds of one test hold the order in which the detail
names them is the model's (log 34). -/
def Obligations.PollCommandsAct : Prop :=
  ∀ (tag : Byte) (stop : Word16) (s : State), s.ready →
    (s.route.state ≠ .active →
      s.refuses (.pollStop tag stop) 0x28 tag .wrongState s.routeDetail ∧
      s.refuses (.pollCancel tag stop) 0x29 tag .wrongState s.routeDetail) ∧
    (s.route.state = .active → s.route.stops.length ≤ stop.toNat →
      s.refuses (.pollStop tag stop) 0x28 tag .badValue [0] ∧ s.refuses (.pollCancel tag stop) 0x29 tag .badValue [0]) ∧
    ∀ p : Stop, s.route.state = .active → s.route.stops[stop.toNat]? = some p →
    let i := stop.toNat
    let wanted := p.status = .unread ∨ p.status = .missed ∨ p.status = .recheck
    let limit := s.route.params.pollLimit
    let cancelled : Route := { s.route with stops := s.route.stops.set i { p with attempts := max p.attempts limit } }
    (∃ t, exec (.pollStop tag stop) s = .next t ∧
      if p.pollable = false ∨
          (s.segmentState p.segment = .opened ∧ wanted ∧ limit ≤ p.attempts) then
        t.freeUses = s.freeUses + 2 ∧
          ∃ a b, s.completes t 0x28 tag (.refused .wrongState [a, b]) [] [.free]
      else if s.segmentState p.segment ≠ .opened then
        s.completes t 0x28 tag (.refused .wrongState (u8 1 ++ u8 (s.segmentState p.segment).code)) [] []
      else if ¬wanted then s.completes t 0x28 tag (.refused .wrongState (u8 2 ++ u8 p.status.code)) [] []
      else if s.tx.names i = true then s.completes t 0x28 tag (.refused .already []) [] []
      else if 32 ≤ s.tx.queue.length then s.completes t 0x28 tag (.refused .pollFull []) [] []
      else
        t.tx = { s.tx with queue := s.tx.queue ++ [⟨i, p.meterId, .host⟩] } ∧
          s.completes t 0x28 tag (.ok (u8 s.tx.queue.length ++ u8 p.attempts)) [] [.tx]) ∧
    (∃ t, exec (.pollCancel tag stop) s = .next t ∧
      if s.tx.names i = false then s.completes t 0x29 tag (.refused .notFound []) [] []
      else
        t.route = cancelled ∧
        (let reply (which : Nat) : Answer := .ok (u8 (max p.attempts limit) ++ u8 which);
          if s.tx.queue.any (·.stop == i) then
            t.tx = (({ s with route := t.route } : State).removePolls (· == i)).tx ∧
              s.completes t 0x29 tag (reply 0) [] [.route, .tx]
          else
            match s.tx.state with
            | .idle | .clearing _ _ _ =>
              t.tx = (({ s with route := t.route } : State).removePolls (· == i)).tx ∧
                s.completes t 0x29 tag (reply 1) [] [.route, .tx]
            | .keyed q token _ burst =>
              t.tx = { s.tx with state := .keyed q token true burst } ∧ s.completes t 0x29 tag (reply 2) [] [.route, .tx]
            | .listen q token _ window =>
              t.tx = { s.tx with state := .listen q token true window } ∧ s.completes t 0x29 tag (reply 2) [] [.route, .tx]))

/-- TX_INHIBIT and TX_ENABLE (R137, R138): a poll in CLEARING returns to the head, at the cost of the tail of a full queue, and a
poll on the air runs to its end. -/
def Obligations.InhibitAndEnable : Prop :=
  ∀ (tag : Byte) (s : State), s.ready →
    (∃ t, exec (.txInhibit tag) s = .next t ∧
      t.tx = (match s.tx.inhibit, s.tx.state with
        | true, _ => s.tx
        | false, .clearing q _ _ =>
          ({ s with tx := { s.tx with
            state := .idle, inhibit := true
            queue := q :: if s.tx.queue.length < 32 then s.tx.queue else s.tx.queue.dropLast } } : State).refillScan.tx
        | false, _ => { s.tx with inhibit := true }) ∧
      s.completes t 0x2B tag (.ok (u8 s.tx.state.code)) [] [.tx]) ∧
    (∃ t, exec (.txEnable tag) s = .next t ∧ t.tx = { s.tx with inhibit := false } ∧
      s.completes t 0x2A tag (.ok (u8 s.tx.state.code)) [] [.tx])

/-! ## Dock link -/

/-- The signal indication follows DSD and the dock settings (R143, R144): present it lifts DOWN to ALIGN and stops the
signal-loss watch, absent it starts the watch. SET_DOCK is in force at once, and one with a field outside its range is refused
BAD_VALUE with the first such field (R203). The pin moves in every state of the part; that it moves by the polarity while signal
detect is not used is the model's choice (log 44). -/
def Obligations.DockSignalIsDerived : Prop :=
  ∀ (tag : Byte) (b : SetDockBody) (s : State),
    let present (d : Dock) : Prop := d.settings.detectUsed = false ∨ d.dsdPin = d.settings.polarityHigh
    let derived (d : Dock) : Dock :=
      if d.settings.detectUsed = false ∨ d.dsdPin = d.settings.polarityHigh then
        (if d.link = .down then { d with link := .align } else { d with watch := none })
      else if d.link = .down ∨ d.watch.isSome = true then d
      else { d with watch := some ⟨0, 10⟩ }
    let lifted (t : State) (d : Dock) (ps : List Part) : Prop :=
      t.dock = derived d ∧
        ((present d ∧ d.link = .down → s.changesOnly t (dockState .down .align .signalUp) ps) ∧
          (¬(present d ∧ d.link = .down) → s.changesOnly t [] ps))
    let moved (level : Bool) : Dock := { s.dock with dsdPin := level }
    let valid := b.detectUsed.toNat ≤ 1 ∧ b.polarity.toNat ≤ 1 ∧ 1 ≤ b.threshold.toNat
    let set : Dock := { s.dock with settings := ⟨b.detectUsed == 1, b.polarity == 0, b.threshold.toNat⟩ }
    (∃ t, exec .dockSignalPresent s = .next t ∧
      (s.running = true → lifted t (moved s.dock.settings.polarityHigh) [.dock]) ∧
      (s.running = false → t.dock = moved s.dock.settings.polarityHigh ∧ s.frame [.dock] t)) ∧
    (∃ t, exec .dockSignalAbsent s = .next t ∧
      (s.running = true → lifted t (moved !s.dock.settings.polarityHigh) [.dock]) ∧
      (s.running = false → t.dock = moved (!s.dock.settings.polarityHigh) ∧ s.frame [.dock] t)) ∧
    (s.ready → valid → ∃ t, exec (.setDock tag b) s = .next t ∧ t.dock = derived set ∧
      (present set ∧ set.link = .down → s.completes t 0x14 tag (.ok []) (dockState .down .align .signalUp) [.dock]) ∧
      (¬(present set ∧ set.link = .down) → s.completes t 0x14 tag (.ok []) [] [.dock])) ∧
    (s.ready → ¬valid → ∃ t, exec (.setDock tag b) s = .next t ∧
      let field : Byte := if 1 < b.detectUsed.toNat then 0 else if 1 < b.polarity.toNat then 1 else 2
      s.completes t 0x14 tag (.refused .badValue [field]) [] [])

/-- The link enters DOWN by signal loss and by DOCK_RESET (R144, R151, R159): from a session with all that a departure does, and
with the signal present on to ALIGN at once. That pages waiting are dropped and one being sent starts no timer when EXCHANGE is
left, as R151 says of a session's messages, is the model's reading (log 21); that a message partly received goes uncounted is its
choice (log 40). -/
def Obligations.DockLinkGoesDown : Prop :=
  ∀ (tag : Byte) (watch : Timer) (s : State),
    let old := s.dock.link
    let down (link : LinkState) : Dock := { s.dock.left with link := link, failures := 0, watch := none, faultCause := none }
    let reply : Answer := .ok (u8 old.code)
    let n := s.notice .dockState
    (s.running = true → old ≠ .down → s.dock.signalPresent = false → s.dock.watch = some watch → watch.limit ≤ watch.elapsed →
      ∃ t, exec .dockSignalLoss s = .next t ∧ t.dock = down .down ∧ s.linkLeft t ∧
        s.changesOnly t (dockState old .down .signal) [.dock, .store, .route, .tracker]) ∧
    (s.ready → old = .down →
      ∃ t, exec (.dockReset tag) s = .next t ∧ t.dock = { s.dock with failures := 0 } ∧
        s.completes t 0x60 tag reply [] [.dock]) ∧
    (s.ready → old ≠ .down → s.dock.signalPresent = false →
      ∃ t, exec (.dockReset tag) s = .next t ∧ t.dock = down .down ∧ s.linkLeft t ∧
        s.completes t 0x60 tag reply (dockState old .down .dockReset) [.dock, .store, .route, .tracker]) ∧
    (s.ready → old ≠ .down → s.dock.signalPresent = true →
      ∃ t, exec (.dockReset tag) s = .next t ∧ t.dock = down .align ∧ s.linkLeft t ∧ s.replies t 0x60 tag reply ∧
        (t.notice .dockState).pending = true ∧
        (t.notice .dockState).count = (if n.pending then satStep 65535 (satStep 65535 n.count) else 2) ∧
        (t.notice .dockState).detail = (if n.pending then n.detail else some [BitVec.ofNat 8 old.code, 0, 10]) ∧
        (∀ c : Cause, c ≠ .dockState → (t.notice c).pending = (s.notice c).pending ∧ (t.notice c).count = (s.notice c).count) ∧
        s.frame [.dock, .store, .route, .tracker, .van] t)

/-- Bring-up (R145, R147, R148): alignment sends the ABILITY page, the depot's ABILITY page is judged and answered by the ROUTE
page, and the DEPOT page leads to READY and the upload start test. A page out of turn is discarded and counted (R149, R150), and so
is a DEPOT page whose upload-wanted byte is above 1 (R198, R211), and the page timer runs on. That an early page waits for the
sending to end, and that a DEPOT page before the ROUTE page has begun is out of turn, are the model's readings (log 21); that a
message partly received goes uncounted where a page leads to FAULT is its choice (log 40). -/
def Obligations.PagesAreExchanged : Prop :=
  ∀ (page : AbilityPage) (early : Option AbilityPage) (depot : DepotPage) (timer : Timer) (size : Nat) (s : State),
    s.running = true →
    let d := s.dock
    let formats := page.formats.getLsbD 0 = true ∨ page.formats.getLsbD 1 = true
    let route : List Byte :=
      u16 s.route.number ++ u8 s.route.state.code ++ u16 s.store.fill ++
        (match s.store.pendingRecords.head? with | some r => 1 :: u32 r.sequence | none => [0, 0, 0, 0, 0])
    let ready : Dock := { d with
      link := .ready, exchange := none, blockNumber := 0, failures := 0, nakCount := 0, wanted := some (depot.wanted == 1)
      depotNumber := some depot.depotNumber.toNat }
    let uploads := depot.wanted = 1 ∧ d.suspended = false ∧ s.store.pendingRecords ≠ []
    let discarded : Dock := { d with counters := { d.counters with discarded := d.counters.discarded + 1 } }
    (d.link = .align →
      ∃ t, exec .aligned s = .next t ∧
        t.dock = ({ d with
          link := .exchange, windowErrors := 0, format := none, blockSize := none, wanted := none, depotNumber := none
          identity := none, lastNak := none, suspended := false, rx := [], exchange := some (.abilitySending none)
          waiting := d.waiting ++ [⟨.abilityPage, ⟨0xA0, 0, [3, 32, 0x04, 0x12, 1]⟩⟩] } : Dock).sendNext ∧
        s.changesOnly t (dockState .align .exchange .aligned) [.dock]) ∧
    (d.link = .exchange → d.exchange = some (.abilityWait timer) →
      ∃ t, exec (.abilityPage page) s = .next t ∧
        (formats → page.maxBlock ≠ 0 →
          t.dock = ({ d with
            format := some (if page.formats.getLsbD 1 then 2 else 1), blockSize := some (min 32 page.maxBlock.toNat)
            identity := some (page.family.toNat, page.revision.toNat), exchange := some (.routeSending none)
            waiting := d.waiting ++ [⟨.routePage, ⟨0xA1, 0, route⟩⟩] } : Dock).sendNext ∧
          s.changesOnly t [] [.dock]) ∧
        (¬formats → t.dock = { d.left with link := .fault, faultCause := some .noFormat } ∧
          s.changesOnly t (dockState .exchange .fault .noFormat) [.dock]) ∧
        (formats → page.maxBlock = 0 → t.dock = { d.left with link := .fault, faultCause := some .noBlock } ∧
          s.changesOnly t (dockState .exchange .fault .noBlock) [.dock])) ∧
    (d.link = .exchange → d.exchange = some (.routeWait timer) → depot.wanted.toNat ≤ 1 → d.blockSize = some (size + 1) →
      ∃ t, exec (.depotPage depot) s = .next t ∧ s.changesOnly t (dockState .exchange .ready .exchanged) [.dock, .store] ∧
        (¬uploads → t.dock = ready ∧ t.store = s.store) ∧
        (uploads → ({ s with dock := { ready with link := .uploading, runAcked := 0 } } : State).formsBlock t)) ∧
    (d.link = .exchange → d.exchange = some (.abilitySending none) →
      ∃ t, exec (.abilityPage page) s = .next t ∧ t.dock = { d with exchange := some (.abilitySending (some page)) } ∧
        s.changesOnly t [] [.dock]) ∧
    ((d.link = .ready ∨ d.link = .uploading ∨ d.link = .exchange ∧ d.exchange = some (.routeWait timer)) →
      ∃ t, exec (.abilityPage page) s = .next t ∧ t.dock = discarded ∧ s.changesOnly t [] [.dock]) ∧
    ((d.link = .ready ∨ d.link = .uploading ∨ d.link = .exchange ∧
        (d.exchange = some (.abilityWait timer) ∨ d.exchange = some (.abilitySending early) ∨
          d.exchange = some (.routeWait timer) ∧ 1 < depot.wanted.toNat ∨
          d.exchange = some (.routeSending none) ∧
            (1 < depot.wanted.toNat ∨ ∀ m, d.sending = some m → m.role ≠ .routePage))) →
      ∃ t, exec (.depotPage depot) s = .next t ∧ t.dock = discarded ∧ s.changesOnly t [] [.dock]) ∧
    (∀ m, d.link = .exchange → d.exchange = some (.routeSending none) → d.sending = some m → m.role = .routePage →
      depot.wanted.toNat ≤ 1 →
      ∃ t, exec (.depotPage depot) s = .next t ∧ t.dock = { d with exchange := some (.routeSending (some depot)) } ∧
        s.changesOnly t [] [.dock])

/-- A symbol error at the aligned boundary is counted and breaks off a message partly received; at the error threshold a session is
left, and an exchange fails as it does on a page timeout: the third failure in a row ends in FAULT (R146, R149, R151). That a failed
exchange drops the pages that wait, and that one being sent then starts no timer, is the model's reading (log 21), and that a page
timeout leaves a message partly received uncounted is its choice (log 40). -/
def Obligations.ErrorsAndTimeoutsLeaveTheLink : Prop :=
  ∀ (x : Exchange) (timer : Timer) (s : State), s.running = true →
    let d := s.dock
    let counted : Dock := { d with
      windowErrors := d.windowErrors + 1, rx := []
      counters := { d.counters with
        symbolErrors := satStep 65535 d.counters.symbolErrors
        discarded := if d.rx = [] then d.counters.discarded else d.counters.discarded + 1 } }
    let failed (e : Dock) : Dock := { e with
      failures := e.failures + 1, counters := { e.counters with exchangeFailures := e.counters.exchangeFailures + 1 } }
    let exchangeFails (t : State) (e : Dock) (cause : DockCause) : Prop :=
      (e.failures < 2 → t.dock = { (failed e).left with link := .align } ∧
        s.changesOnly t (dockState .exchange .align cause) [.dock]) ∧
      (2 ≤ e.failures → t.dock = { (failed e).left with link := .fault, faultCause := some .retries } ∧
        s.changesOnly t (dockState .exchange .fault .retries) [.dock])
    let reached := d.settings.threshold ≤ d.windowErrors + 1
    ((d.link = .fault ∨ d.link.inSession = true ∨ d.link = .exchange) →
      (∃ t, exec .symbolError s = .next t ∧
        (d.link = .fault ∨ ¬reached → t.dock = counted ∧ s.changesOnly t [] [.dock]) ∧
        (d.link.inSession = true → reached → t.dock = { counted.left with link := .align } ∧ s.linkLeft t ∧
          s.changesOnly t (dockState d.link .align .errors) [.dock, .store, .route, .tracker]) ∧
        (d.link = .exchange → reached → exchangeFails t counted .errors)) ∧
      ∃ t, exec .dockErrorWindowEnd s = .next t ∧ t.dock = { d with windowErrors := 0 } ∧ s.changesOnly t [] [.dock]) ∧
    (d.link = .exchange → d.exchange = some x → (x = .abilityWait timer ∨ x = .routeWait timer) → timer.limit ≤ timer.elapsed →
      ∃ t, exec .pageTimeout s = .next t ∧ exchangeFails t d .pageTimeout)

/-- The end of a sending (R147, R148, R150, R152): it starts the page timer or the acknowledgement timer, lets an early page
act, sends what waits, and after a reply takes the next held command, which acts as its row does on the state with the hold's
rest, or is refused BAD_FORM or WRONG_STATE (R158, R176; the reply counts as waiting until its last byte is sent, log 20; early
pages, log 21). Where an upload message waits at that moment, it begins first and the command is taken behind it (the model's
choice, log 39; the order of the refusals and the detail of WRONG_STATE, log 31). DTX carries the message being sent (R143,
R150). -/
def Obligations.SendingEnds : Prop :=
  ∀ (m : DockOut) (page : AbilityPage) (depot : DepotPage) (h : Held) (rest : List Held) (i : Instr) (x : Command) (s : State),
    s.running = true → s.dock.sending = some m →
    let sent : Dock := { s.dock with sending := none }
    let waits (x : Exchange) : State := { s with dock := { sent with exchange := some x } }
    let started : Dock :=
      match m.role, s.dock.exchange with
      | .abilityPage, some (.abilitySending none) => { sent with exchange := some (.abilityWait ⟨0, 1000⟩) }
      | .routePage, some (.routeSending none) => { sent with exchange := some (.routeWait ⟨0, 1000⟩) }
      | .block, _ => { sent with outstanding := s.dock.outstanding.map fun b => { b with timer := some ⟨0, 2000⟩ } }
      | _, _ => sent
    let covered : List Byte := u16 (m.message.body.length + 2) ++ m.message.kind :: m.message.tag :: m.message.body
    let acts (line : Dock) (t : State) : Prop :=
      let before : State := { s with dock := { line with held := [] } }
      let after : State := { t with dock := { t.dock with held := [] } }
      (rowCommand i = some (.dock, h.tag, x) → h.kind = commandKind x →
        h.command = (if commandFits x = true then some x else none) → exec i before = .next after) ∧
      (h.command = none → before.dockCompletes after h.kind h.tag (.refused .badForm []) [] []) ∧
      (h.command = some x → dockTakes x = false →
        before.dockCompletes after h.kind h.tag (.refused .wrongState [5, BitVec.ofNat 8 s.dock.link.code]) [] [])
    (s.dock.held = [] → s.dock.exchange ≠ some (.abilitySending (some page)) → s.dock.exchange ≠ some (.routeSending (some depot)) →
      (∀ y, s.dock.exchange = some (.abilitySending y) → y = none) → (∀ y, s.dock.exchange = some (.routeSending y) → y = none) →
      ∃ t, exec .dockSendDone s = .next t ∧ t.dock = started.sendNext ∧ s.changesOnly t [] [.dock]) ∧
    (s.dock.held = [] → s.dock.reply = none → s.dock.waiting = [] → s.dock.link = .exchange → m.role = .abilityPage →
      s.dock.exchange = some (.abilitySending (some page)) →
      exec .dockSendDone s = exec (.abilityPage page) (waits (.abilityWait ⟨0, 1000⟩))) ∧
    (s.dock.held = [] → s.dock.reply = none → s.dock.waiting = [] → s.dock.link = .exchange → m.role = .routePage →
      s.dock.exchange = some (.routeSending (some depot)) → depot.wanted.toNat ≤ 1 →
      exec .dockSendDone s = exec (.depotPage depot) (waits (.routeWait ⟨0, 1000⟩))) ∧
    (s.dock.held = h :: rest → s.dock.reply = none → s.dock.waiting = [] → s.dock.link.inSession = true → m.role = .reply →
      ∃ t, exec .dockSendDone s = .next t ∧ t.dock.held = rest ∧ t.dock.reply = none ∧ t.dock.waiting = [] ∧
        (∃ body, t.dock.sending = some ⟨.reply, ⟨0x80, h.tag, h.kind :: body⟩⟩) ∧ acts sent t) ∧
    (∀ w behind, s.dock.held = h :: rest → s.dock.reply = none → s.dock.waiting = w :: behind → w.role ≠ .reply →
      s.dock.link.inSession = true → m.role = .reply →
      ∃ t, exec .dockSendDone s = .next t ∧ t.dock.held = rest ∧ t.dock.sending = some w ∧ t.dock.waiting = behind ∧
        (∃ body, t.dock.reply = some ⟨0x80, h.tag, h.kind :: body⟩) ∧
        acts { sent with sending := some w, waiting := behind } t) ∧
    s.dtx = .drive (.message (0xC5 :: covered ++ u16 (linkCrc covered).toNat))

/-- Acknowledgements (R153 to R155, R157): an ACK makes the block UPLOADED and the next one follows or the upload ends; a NAK
returns it to PENDING for a resend delay, and the third in a row suspends the upload; one that answers no outstanding block is
stray. -/
def Obligations.BlocksAreAcknowledged : Prop :=
  ∀ (number reason : Byte) (why : NakReason) (b : Block) (size : Nat) (s : State), s.running = true →
    s.dock.link.inSession = true →
    let d := s.dock
    let unsent (m : DockOut) : DockOut := if m.role = .block then { m with role := .stale } else m
    let closed : Dock := { d with outstanding := none, sending := d.sending.map unsent, waiting := d.waiting.map unsent }
    let acked : Dock := { closed with
      blockNumber := d.blockNumber + 1, nakCount := 0, runAcked := d.runAcked + b.count
      counters := { d.counters with acks := d.counters.acks + 1 } }
    let uploaded : Store := { s.store with
      records := s.store.records.map fun r => if r.upload = .inFlight then { r with upload := .uploaded } else r }
    let refusedBlock : Dock := { closed with
      lastNak := some why, nakCount := d.nakCount + 1, counters := { d.counters with naks := d.counters.naks + 1 } }
    let returned : Store := { s.store with
      records := s.store.records.map fun r => if r.upload = .inFlight then { r with upload := .pending } else r }
    let last := ((uploaded.records.filter (·.upload = .uploaded)).getLast?.map (·.sequence)).getD 0
    let finished : List Byte := u32 last ++ u32 acked.runAcked
    (d.outstanding = some b → number = d.blockNumber →
      (s.store.pendingRecords ≠ [] → d.blockSize = some (size + 1) →
        ∃ t, exec (.blockAck number) s = .next t ∧ ({ s with dock := acked, store := uploaded } : State).formsBlock t ∧
          s.changesOnly t [] [.dock, .store]) ∧
      (s.store.pendingRecords = [] →
        ∃ t, exec (.blockAck number) s = .next t ∧ t.store = uploaded ∧
          t.dock = ({ acked with link := .ready, waiting := acked.waiting ++ [⟨.uploadEnd, ⟨0xA9, 0, finished⟩⟩] } : Dock).sendNext ∧
          s.changesOnly t [(.uploadDone, finished ++ u16 (d.depotNumber.getD 0))] [.dock, .store]) ∧
      (nakReasonOf reason = some why →
        ∃ t, exec (.blockNak number reason) s = .next t ∧ t.store = returned ∧
          (d.nakCount < 2 → t.dock = { refusedBlock with resend := some ⟨0, 1000⟩ } ∧ s.changesOnly t [] [.dock, .store]) ∧
          (2 ≤ d.nakCount → t.dock = { refusedBlock with suspended := true, link := .ready } ∧
            s.changesOnly t (dockState d.link .ready .suspended) [.dock, .store]))) ∧
    (d.outstanding = none ∨ number ≠ d.blockNumber →
      (∃ t, exec (.blockAck number) s = .next t ∧ t.dock = { d with counters := { d.counters with stray := d.counters.stray + 1 } } ∧
        s.changesOnly t [] [.dock]) ∧
      (nakReasonOf reason = some why →
        ∃ t, exec (.blockNak number reason) s = .next t ∧
          t.dock = { d with counters := { d.counters with stray := d.counters.stray + 1 } } ∧ s.changesOnly t [] [.dock])) ∧
    (nakReasonOf reason = none →
      ∃ t, exec (.blockNak number reason) s = .next t ∧
        t.dock = { d with counters := { d.counters with discarded := d.counters.discarded + 1 } } ∧ s.changesOnly t [] [.dock])

/-- The timers of the upload (R155, R156): after a resend delay a block is formed again; an acknowledgement timer resends the same
block three times and then gives the link up. That a message partly received then goes uncounted is the model's choice (log 40). -/
def Obligations.UploadTimersExpire : Prop :=
  ∀ (timer : Timer) (b : Block) (size : Nat) (s : State), s.running = true → s.dock.link = .uploading →
    timer.limit ≤ timer.elapsed →
    let d := s.dock
    (d.resend = some timer → s.store.pendingRecords ≠ [] → d.blockSize = some (size + 1) →
      ∃ t, exec .resendDelayExpiry s = .next t ∧ ({ s with dock := { d with resend := none } } : State).formsBlock t ∧
        s.changesOnly t [] [.dock, .store]) ∧
    (d.outstanding = some b → b.timer = some timer →
      ∃ t, exec .ackTimerExpiry s = .next t ∧
        (b.sends ≤ 3 →
          t.dock = ({ d with
            outstanding := some { b with sends := b.sends + 1, timer := none }
            counters := { d.counters with resends := d.counters.resends + 1, blocksSent := d.counters.blocksSent + 1 }
            waiting := d.waiting ++
              [⟨.block, ⟨0xA8, 0, uploadBlockBody (d.format.getD 1) d.blockNumber s.store.inFlightRecords⟩⟩] } : Dock).sendNext ∧
          s.changesOnly t [] [.dock]) ∧
        (3 < b.sends → t.dock = { d.left with link := .align } ∧ s.linkLeft t ∧
          s.changesOnly t (dockState .uploading .align .ackTimeout) [.dock, .store, .route, .tracker]))

/-- Messages from the depot (R149, R150, R173): a page's or an acknowledgement's bytes act as its row (the division between the
rows, log 9); bytes outside a message are passed over; a bad length, a bad CRC, a message of another kind and one broken off are
discarded and counted; a message may come in several arrivals (while no due cause waits for a free place, R183); and in DOWN,
ALIGN and FAULT nothing is taken. A command that is not taken at once: in EXCHANGE, or with 4 held, it is discarded and counted;
behind others or a reply it is held (that a reply being sent still waits is the model's reading, log 20). One whose body does
not fit its form is answered BAD_FORM, and one outside the eight of R158 WRONG_STATE with the link state (R150, R158, R176; the
order and the detail, log 31). -/
def Obligations.DepotMessagesAct : Prop :=
  ∀ (m : Message) (page : AbilityPage) (depot : DepotPage) (number reason hi lo c1 c2 tag : Byte) (content noise a b : List Byte)
    (i : Instr) (c : Command) (s : State), s.running = true →
    let length := ofBytes [hi, lo]
    let arrives (m : Message) := exec (.dockMessageArrival m.frame) s
    let discarded : Dock := { s.dock with rx := [], counters := { s.dock.counters with discarded := s.dock.counters.discarded + 1 } }
    let becomes (bytes : List Byte) (d : Dock) : Prop :=
      ∃ t, exec (.dockMessageArrival bytes) s = .next t ∧ t.dock = d ∧ s.changesOnly t [] [.dock]
    ((s.dock.link = .exchange ∨ s.dock.link.inSession = true) → s.dock.rx = [] →
      arrives ⟨0xA0, m.tag, [page.formats, page.maxBlock] ++ bytes16 page.family ++ [page.revision]⟩ = exec (.abilityPage page) s ∧
      arrives ⟨0xA2, m.tag, depot.wanted :: bytes16 depot.depotNumber⟩ = exec (.depotPage depot) s ∧
      arrives ⟨0xAA, m.tag, [number]⟩ = exec (.blockAck number) s ∧
      arrives ⟨0xAB, m.tag, [number, reason]⟩ = exec (.blockNak number reason) s ∧
      (m.body.length ≤ 1024 → isCommandKind m.kind = false → dockArrivalOf m = none →
        ∃ t, arrives m = .next t ∧ t.dock = discarded ∧ s.changesOnly t [] [.dock]) ∧
      (0xC5 ∉ noise → becomes noise s.dock) ∧
      (hi ≠ 0xC5 → lo ≠ 0xC5 → (length < 2 ∨ 1026 < length) → becomes [0xC5, hi, lo] discarded) ∧
      (0xC5 ∉ [hi, lo] ++ content ++ [c1, c2] → content.length = length → 2 ≤ length → length ≤ 1026 →
        ofBytes [c1, c2] ≠ (linkCrc ([hi, lo] ++ content)).toNat →
        becomes (0xC5 :: [hi, lo] ++ content ++ [c1, c2]) discarded) ∧
      (2 ≤ length → length ≤ 1026 → content.length < length →
        becomes (0xC5 :: [hi, lo] ++ content) { s.dock with rx := 0xC5 :: [hi, lo] ++ content })) ∧
    (∃ t, exec (.dockMessageArrival a) s = .next t ∧
      (s.settled → exec (.dockMessageArrival (a ++ b)) s = exec (.dockMessageArrival b) t)) ∧
    (s.dock.link = .down ∨ s.dock.link = .align ∨ s.dock.link = .fault → becomes a s.dock) ∧
    (∃ t, exec .dockMessageAbandoned s = .next t ∧ t.dock = (if s.dock.rx = [] then s.dock else discarded) ∧
      s.changesOnly t [] [.dock]) ∧
    (rowCommand i = some (.dock, tag, c) →
      ∃ t, exec i s = .next t ∧
        (s.dock.link = .down ∨ s.dock.link = .align ∨ s.dock.link = .fault → t.dock = s.dock ∧ s.changesOnly t [] []) ∧
        (s.dock.link = .exchange ∨ s.dock.link.inSession = true ∧ 4 ≤ s.dock.held.length →
          t.dock = { s.dock with counters := { s.dock.counters with discarded := s.dock.counters.discarded + 1 } } ∧
          s.changesOnly t [] [.dock]) ∧
        (s.dock.link.inSession = true → s.dock.held.length < 4 →
          (s.dock.reply.isSome = true ∨ ∃ m, s.dock.sending = some m ∧ m.role = .reply) →
          t.dock = { s.dock with
            held := s.dock.held ++ [⟨commandKind c, tag, if commandFits c = true then some c else none⟩] } ∧
          s.changesOnly t [] [.dock])) ∧
    (s.dockReady → s.dock.rx = [] → m.body.length ≤ 1024 →
      (isCommandKind m.kind = true → commandOf m.kind m.body = none →
        ∃ t, arrives m = .next t ∧ s.dockCompletes t m.kind m.tag (.refused .badForm []) [] []) ∧
      (commandOf m.kind m.body = some c → isCommandKind m.kind = true → dockTakes c = false →
        ∃ t, arrives m = .next t ∧
          s.dockCompletes t m.kind m.tag (.refused .wrongState [5, BitVec.ofNat 8 s.dock.link.code]) [] []))

/-! ## Route clock -/

/-- PPS pulses, the pulse watch and second steps (R164, R165), SET_CLOCK (R166) and CLOCK_SOURCE (R167), each with the CLOCK_STATE
that a change of clock state raises (R168). That a second step due stands beside a sub-second of 999 until it is taken is the
model's form of it (log 4). -/
def Obligations.ClockKeepsTime : Prop :=
  ∀ (tag : Byte) (day : Word16) (second : Word24) (source : Byte) (since : Nat) (s : State), s.running = true →
    let c := s.clock
    let stepped (k : Clock) : Clock :=
      if k.second = 86399 then { k with
        sub := 0, stepDue := false, second := 0, day := if k.day = 65535 then 0 else k.day + 1 }
      else { k with sub := 0, stepDue := false, second := k.second + 1 }
    let aligned (k : Clock) : Clock := if 500 ≤ k.sub then stepped k else { k with sub := 0, stepDue := false }
    let change (new : ClockState) (cause day second : Nat) : List (Cause × List Byte) :=
      if c.state = new then []
      else [(.clockState, u8 c.state.code ++ u8 new.code ++ u8 cause ++ u16 day ++ u24 (new.code * 2 ^ 22 + second))]
    let taken : Clock := { c with watchPresent := true, sincePulse := some 0 }
    let set : ClockState := if c.source = .pps ∧ c.watchPresent = true then .locked else .free
    c.second ≤ 86399 → c.day ≤ 65535 →
    (∃ t, exec .ppsPulse s = .next t ∧
      if c.state = .unset ∨ c.state = .free ∧ c.source = .internal then t.clock = taken ∧ s.changesOnly t [] [.clock]
      else t.clock = aligned { taken with state := .locked } ∧ s.changesOnly t (change .locked 1 c.day c.second) [.clock]) ∧
    (c.watchPresent = true → c.sincePulse = some since → 2500 ≤ since →
      ∃ t, exec .pulseWatchExpiry s = .next t ∧
        if c.state = .locked then
          t.clock = { c with watchPresent := false, state := .free } ∧ s.changesOnly t (change .free 2 c.day c.second) [.clock]
        else t.clock = { c with watchPresent := false } ∧ s.changesOnly t [] [.clock]) ∧
    (c.state ≠ .unset → c.stepDue = true →
      ∃ t, exec .secondStep s = .next t ∧ t.clock = stepped c ∧ s.changesOnly t [] [.clock]) ∧
    (s.ready →
      (second.toNat ≤ 86399 → ∃ t, exec (.setClock tag day second) s = .next t ∧
        t.clock = { c with state := set, day := day.toNat, second := second.toNat, sub := 0, stepDue := false } ∧
        s.completes t 0x30 tag (.ok (u8 set.code ++ u16 day.toNat ++ u24 second.toNat)) (change set 0 day.toNat second.toNat)
          [.clock]) ∧
      (86399 < second.toNat → ∃ t, exec (.setClock tag day second) s = .next t ∧
        s.completes t 0x30 tag (.refused .badValue [1]) [] []) ∧
      ∃ t, exec (.clockSource tag source) s = .next t ∧
        if source = 0 then
          (let new := if c.state = .locked then ClockState.free else c.state;
            t.clock = { c with source := .internal, state := new } ∧
              s.completes t 0x31 tag (.ok [0, BitVec.ofNat 8 new.code]) (change new 3 c.day c.second) [.clock])
        else if source = 1 then
          t.clock = { c with source := .pps } ∧ s.completes t 0x31 tag (.ok [1, BitVec.ofNat 8 c.state.code]) [] [.clock]
        else s.completes t 0x31 tag (.refused .badValue [0]) [] [])

/-! ## Van link -/

/-- What the receiver does with bytes on VRX (R173, R174): what it counts and discards, the commands it holds (while the
outbound queue is full or a RESET_PART waits, R175, R178), and the body that does not fit its form, answered BAD_FORM; a message
may come in several rows (while no due cause waits for a free place, R183). A gap of more than 2 ms or a byte without its stop
bit discards what was received of a message, and every byte of a message starts the 2 ms anew (before they have passed the row
of the gap does nothing, log 4). VRDY is high while fewer than 4 commands are held (R174). The two arrival rows carry bytes
alike (log 8). -/
def Obligations.ReceivedBytesAreJudged : Prop :=
  ∀ (m : Message) (hi lo c1 c2 : Byte) (content noise a b : List Byte) (row : Instr) (s : State), s.running = true →
    let k := s.van.counters
    let length := ofBytes [hi, lo]
    let on (bytes : List Byte) (t : State) : Prop :=
      exec (.vanMessageArrival bytes) s = .next t ∧ exec (.vanMessageDiscard bytes) s = .next t
    (row = .vanByteGapTimeout ∧ s.van.rx.gap.limit ≤ s.van.rx.gap.elapsed ∨ row = .byteWithoutStopBit →
      ∃ t, exec row s = .next t ∧
        s.linkCounts t [] (if s.van.rx.bytes = [] then k else { k with incomplete := k.incomplete + 1 })) ∧
    (s.settled → ∃ t, on a t ∧ ∃ u, exec (.vanMessageArrival b) t = .next u ∧ on (a ++ b) u) ∧
    (s.van.rx.gap.elapsed < s.van.rx.gap.limit → ∃ t, exec .vanByteGapTimeout s = .next t ∧ s.changesOnly t [] []) ∧
    (s.van.rx.bytes = [] →
      (0xC5 ∉ noise → ∃ t, on noise t ∧ s.linkCounts t [] k) ∧
      (hi ≠ 0xC5 → lo ≠ 0xC5 → (length < 2 ∨ 1026 < length) →
        ∃ t, on [0xC5, hi, lo] t ∧ s.linkCounts t [] { k with badLength := k.badLength + 1 }) ∧
      (0xC5 ∉ [hi, lo] ++ content ++ [c1, c2] → content.length = length → 2 ≤ length → length ≤ 1026 →
        ofBytes [c1, c2] ≠ (linkCrc ([hi, lo] ++ content)).toNat →
        ∃ t, on (0xC5 :: [hi, lo] ++ content ++ [c1, c2]) t ∧ s.linkCounts t [] { k with badCrc := k.badCrc + 1 }) ∧
      (2 ≤ length → length ≤ 1026 → content.length < length →
        ∃ t, on (0xC5 :: [hi, lo] ++ content) t ∧ s.linkCounts t (0xC5 :: [hi, lo] ++ content) k) ∧
      (m.body.length ≤ 1024 → isCommandKind m.kind = false →
        ∃ t, on m.frame t ∧ s.linkCounts t [] { k with unknownKind := k.unknownKind + 1 }) ∧
      (m.body.length ≤ 1024 → isCommandKind m.kind = true →
        (4 ≤ s.van.hold.length → ∃ t, on m.frame t ∧ s.linkCounts t [] { k with holdFull := k.holdFull + 1 }) ∧
        (s.van.hold.length < 4 → (64 ≤ s.van.outbound.length ∨ s.van.resetReply.isSome = true) →
          ∃ t, on m.frame t ∧
            ({ s with van := { s.van with hold := s.van.hold ++ [⟨m.kind, m.tag, commandOf m.kind m.body⟩] } } : State).linkCounts
              t [] k) ∧
        (s.ready → commandOf m.kind m.body = none →
          ∃ t, on m.frame t ∧ s.completes t m.kind m.tag (.refused .badForm []) [] []))) ∧
    s.vrdy = .drive (decide (s.van.hold.length < 4))

/-- The outbound queue and RESET_PART (R178, R180): the head leaves, a place freed goes to a due cause first and to a waiting
command when none is due, which then acts as its row does on the state with the hold's rest or is refused BAD_FORM (R175, R176);
while the queue is full or a RESET_PART waits, a command that arrives is held; RESET_PART is answered, holds the commands behind
it, and resets the part when its reply has gone (whatever level VDD then stands at, the model's choice, log 42). VTX carries the
head message, byte by byte, each as a start bit, its 8 bits with the least significant first, and a stop bit (R172). -/
def Obligations.OutboundQueueMoves : Prop :=
  ∀ (tag : Byte) (head : Message) (rest : List Message) (c : Cause) (i : Instr) (x : Command) (s : State), s.running = true →
    let v := s.van
    let moved (t : State) : Prop := t.van.resetReply = v.resetReply.map (· - 1) ∧ t.van.rx = v.rx ∧ s.raised t []
    (v.outbound = head :: rest → v.resetReply ≠ some 0 → v.hold = [] →
      ∃ t, exec .outboundSent s = .next t ∧
        (∃ notices, t.van.outbound = rest ++ notices ∧ (∀ m ∈ notices, m.kind = 0x85) ∧ v.pulsed notices.length t.van) ∧
        moved t ∧ t.van.hold = [] ∧ t.van.attnMode = v.attnMode ∧ t.van.counters = v.counters ∧ s.frame [.van] t) ∧
    (v.outbound = head :: rest → v.resetReply ≠ some 0 → rest.length = 63 → (s.notice c).due = true →
      (∀ d : Cause, d.code < c.code → (s.notice d).due = false) →
      ∃ t, exec .outboundSent s = .next t ∧ t.van.outbound = rest ++ [(s.notice c).message c] ∧ v.pulsed 1 t.van ∧
        moved t ∧
        t.notice c = { s.notice c with announced := true } ∧ t.van.hold = v.hold ∧ t.van.counters = v.counters ∧
        s.frame [.van] t) ∧
    (∀ h behind, v.outbound = head :: rest → v.resetReply = none → rest.length < 64 → v.hold = h :: behind →
      (∀ d : Cause, (s.notice d).due = false) →
      ∃ t, exec .outboundSent s = .next t ∧ t.van.hold = behind ∧
        (∃ body notices, t.van.outbound = rest ++ ⟨0x80, h.tag, h.kind :: body⟩ :: notices ∧ (∀ m ∈ notices, m.kind = 0x85) ∧
          ((∀ x, h.command ≠ some (.setAttnMode x)) → v.pulsed notices.length t.van)) ∧
        (t.van.resetReply = if h.command = some .resetPart then some rest.length else none) ∧
        let before : State := { s with van := { v with outbound := rest, hold := [] } }
        let after : State := { t with van := { t.van with hold := [] } }
        (h.command = none → before.completes after h.kind h.tag (.refused .badForm []) [] []) ∧
        (rowCommand i = some (.van, h.tag, x) → h.kind = commandKind x →
          h.command = (if commandFits x = true then some x else none) → exec i before = .next after)) ∧
    (v.outbound = head :: rest → v.resetReply = some 0 →
      ∃ t, exec .outboundSent s = .next t ∧ s.resets t ∧
        t.supply = { s.supply with monitor := .start, powerLost := false, lastReset := .command, goodCount := none, starting := none }) ∧
    (s.ready →
      ∃ t, exec (.resetPart tag) s = .next t ∧
        (∃ notices, t.van.outbound = v.outbound ++ ⟨0x80, tag, [0x61, 0]⟩ :: notices ∧ (∀ m ∈ notices, m.kind = 0x85) ∧
          v.pulsed notices.length t.van) ∧
        t.van.resetReply = some v.outbound.length ∧ t.van.hold = [] ∧ t.van.rx = v.rx ∧ t.van.attnMode = v.attnMode ∧
        t.van.counters = { v.counters with taken := v.counters.taken + 1 } ∧ s.raised t [] ∧ s.frame [.van] t) ∧
    (rowCommand i = some (.van, tag, x) → (v.resetReply.isSome = true ∨ 64 ≤ v.outbound.length) → v.hold.length < 4 →
      ∃ t, exec i s = .next t ∧
        t.van.hold = v.hold ++ [⟨commandKind x, tag, if commandFits x = true then some x else none⟩] ∧
        t.van.resetReply = v.resetReply ∧ t.van.rx = v.rx ∧ t.van.attnMode = v.attnMode ∧ t.van.counters = v.counters ∧
        (∃ notices, t.van.outbound = v.outbound ++ notices ∧ (∀ m ∈ notices, m.kind = 0x85) ∧ v.pulsed notices.length t.van) ∧
        s.frame [.van] t ∧ s.raised t []) ∧
    s.vtx = .drive (v.outbound.head?.map fun m => m.frame.flatMap fun b =>
      [.start, .data (b.getLsbD 0), .data (b.getLsbD 1), .data (b.getLsbD 2), .data (b.getLsbD 3), .data (b.getLsbD 4),
        .data (b.getLsbD 5), .data (b.getLsbD 6), .data (b.getLsbD 7), .stop])

/-- The notice commands and ATTN (R182 to R187): ACK_NOTICE clears the pending causes it names, SET_NOTICE_MASK replaces the mask
and announces what it unmasks in code order, SET_ATTN_MODE gives up the pulses of PULSE mode, each NOTICE queued in PULSE mode
begins a pulse or owes one, and a pulse is followed by its low time. Bits 13 to 15 of a set of causes name nothing (log 38). The
rows give the microseconds of a pulse (log 25), and ACK_NOTICE's counts go out as a list (log 17). -/
def Obligations.NoticesAreKept : Prop :=
  ∀ (tag : Byte) (causes : Word16) (mode : Byte) (s : State), s.running = true →
    let v := s.van
    let named (c : Cause) : Bool := causes.getLsbD c.code.val
    let list := Cause.all.filter named
    let counted (t : State) : Prop :=
      t.van.attnMode = v.attnMode ∧ t.van.counters = { v.counters with taken := v.counters.taken + 1 } ∧ s.frame [.van] t
    let set (cs : List Cause) : List Byte := u16 (cs.map fun c => 2 ^ c.code.val).sum
    let due := Cause.all.filter fun c => (s.notice c).pending && !(s.notice c).announced && !named c
    (s.ready →
      ∃ t, exec (.ackNotice tag causes) s = .next t ∧
        s.replies t 0x51 tag (.ok (u8 list.length ++ (list.map fun c => u16 (s.notice c).count).flatten)) ∧ counted t ∧
        ∀ c : Cause,
          if named c = true ∧ (s.notice c).pending = true then
            t.notice c = { s.notice c with pending := false, announced := false, count := 0, detail := none }
          else
            t.notice c = { s.notice c with announced := (t.notice c).announced } ∧
              ((s.notice c).due = false → t.notice c = s.notice c)) ∧
    (s.ready → v.outbound.length ≤ 50 →
      ∃ t, exec (.setNoticeMask tag causes) s = .next t ∧ counted t ∧ t.van.hold = [] ∧ t.van.rx = v.rx ∧ t.van.resetReply = none ∧
        t.van.outbound = v.outbound ++ ⟨0x80, tag, [0x15, 0] ++ set list ++ set due⟩ :: due.map (fun c => (s.notice c).message c) ∧
        v.pulsed due.length t.van ∧
        ∀ c : Cause, t.notice c =
          { s.notice c with masked := named c, announced := (s.notice c).announced || decide (c ∈ due) }) ∧
    (s.ready → s.settled → mode.toNat ≤ 1 →
      ∃ t, exec (.setAttnMode tag mode) s = .next t ∧
        (let new : AttnMode := if mode = 0 then .level else .pulse;
          t.van = { v with
            outbound := v.outbound ++ [⟨0x80, tag, [0x16, 0, mode]⟩]
            counters := { v.counters with taken := v.counters.taken + 1 }
            attnMode := new
            attnPhase := if v.attnMode = new then v.attnPhase else .rest
            attnOwed := if v.attnMode = new then v.attnOwed else 0 }) ∧ s.frame [.van] t) ∧
    (s.ready → 2 ≤ mode.toNat →
      ∃ t, exec (.setAttnMode tag mode) s = .next t ∧ s.completes t 0x16 tag (.refused .badValue [0]) [] []) ∧
    (s.settled → v.attnPhase = .high →
      exec .attnPulseEnd s = .next { s with van := { v with attnPhase := .gap } }) ∧
    (s.settled → v.attnPhase = .gap →
      exec .attnLowGapEnd s = .next { s with van :=
        if v.attnOwed = 0 then { v with attnPhase := .rest }
        else { v with attnPhase := .high, attnOwed := v.attnOwed - 1 } }) ∧
    ∃ high, s.attn = .drive high ∧
      (v.attnMode = .level → (high = true ↔ ∃ c : Cause, (s.notice c).pending = true ∧ (s.notice c).masked = false)) ∧
      (v.attnMode = .pulse → (high = true ↔ v.attnPhase = .high))

/-- The queries of the tables (R36, R61, R62, R69, R122): each answers from the state as it stands, by its tests in their order,
and changes nothing; the items stand in the order of their rules (R88, R139, R203, R204, R208). The layout of optional items and
the position tests of READ_REVISIT are the model's (logs 17, 19). -/
def Obligations.TablesAreRead : Prop :=
  ∀ (tag form segment first8 count : Byte) (first16 : Word16) (key start : Word32) (s : State), s.ready →
    let answers (i : Instr) (kind : Byte) (a : Answer) : Prop := ∃ t, exec i s = .next t ∧ s.completes t kind tag a [] []
    let route : Answer := .refused .wrongState [0, BitVec.ofNat 8 s.route.state.code]
    let shiftGone := s.route.state ≠ .active ∧ s.route.state ≠ .retired
    let foreign := s.capture.foreign
    let revisit := s.tracker.revisit
    let records := s.store.records.filter fun r => start.toNat ≤ r.sequence
    let flag (b : Bool) : Byte := if b then 1 else 0
    let opt (width : Nat) (x : Option (List Byte)) : List Byte :=
      match x with
      | some bytes => 1 :: bytes
      | none => 0 :: List.replicate width 0
    let stamp (x : Stamp) : List Byte := u16 x.day ++ u24 (x.state.code * 2 ^ 22 + x.second)
    let set (bits : List Bool) : Nat := (bits.zipIdx.map fun x => if x.1 then 2 ^ x.2 else 0).sum
    let evidence (e : Evidence) : List Byte :=
      u24 (set [e.magnet, e.cover, e.reverse, e.leak, e.battLow, e.alarm, e.conflict, e.rollback, e.backstep, e.wrap, e.range,
        e.rateSat, e.noExpect, e.longGap, e.noTime, e.noBase, e.unconfirmed, e.polled, e.late, e.followup])
    let static (p : StopStatic) : List Byte :=
      u32 p.meterId.toNat ++ u8 p.segment ++ u8 (p.digits * 16 + p.kindTag) ++ u32 (p.previous.getD 0) ++
        u8 ((if p.previous.isSome then 128 else 0) + (if p.pollable then 64 else 0) + p.profile) ++ u16 p.previousDay ++
        u8 p.previousHour ++ u24 p.expected
    let summary (e : Entry) (place : Nat) (position : Option Nat) : List Byte :=
      u8 place ++ opt 1 (position.map u8) ++ u16 e.copies ++ u8 e.eligible ++
        u8 (set [e.mask.getLsbD 0, e.mask.getLsbD 1, e.mask.getLsbD 2, e.mask.getLsbD 3]) ++
        u8 (set [e.union.magnet, e.union.cover, e.union.reverse, e.union.leak, e.union.battLow]) ++
        [flag e.alarm, flag e.conflict, flag e.polled, flag e.followup] ++ u32 e.best.reading.toNat ++ [e.best.sequence] ++
        stamp e.firstHeard ++ stamp e.lastHeard ++ opt 1 (e.final.map fun f => [flag !f.confirmed])
    let record (r : Record) : List Byte :=
      u32 r.sequence ++ u16 r.route ++ u16 r.stop ++ u32 r.meterId.toNat ++ u8 r.segment ++ u8 (r.bestTag * 16 + r.kindTag) ++
        u32 r.reading.toNat ++ stamp r.firstHeard ++
        u8 ((if r.hours.isSome then 128 else 0) + (if r.rate.isSome then 64 else 0) + (if r.ratio.isSome then 32 else 0) +
          (if r.supersedes.isSome then 16 else 0) + r.movement.code) ++
        u32 r.amount ++ u16 (r.hours.getD 0) ++ u32 (r.rate.getD 0) ++ u16 (r.ratio.getD 0) ++
        u8 (r.category.code.val * 16 + r.recClass.code * 4 + r.upload.code) ++ evidence r.evidence ++ u16 r.copies ++
        u8 r.eligible ++ u8 r.bestLevel ++
        u8 (r.bestCorrections * 16 + set [r.mask.getLsbD 0, r.mask.getLsbD 1, r.mask.getLsbD 2, r.mask.getLsbD 3]) ++
        u32 (r.supersedes.getD 0)
    let inHand (i : Nat) : Option (List Byte) :=
      match s.capture.heard.find? (·.stop == i), s.capture.queue.findIdx? (·.stop == i), s.check with
      | some e, _, _ => some (summary e (if e.final = none then 0 else 1) none)
      | none, some k, _ => s.capture.queue[k]?.map fun e => summary e 2 (some k)
      | none, none, some c => if c.entry.stop = i then some (summary c.entry 3 none) else none
      | none, none, none => none
    let pollInHand : Option (Nat × Nat) :=
      match s.tx.state with
      | .idle => none
      | .clearing q _ _ => some (q.stop, 1)
      | .keyed q _ _ _ => some (q.stop, 2)
      | .listen q _ _ _ => some (q.stop, 3)
    let stop (i : Nat) (p : Stop) : List Byte :=
      opt 17 (p.static.map static) ++ [flag p.static.isSome] ++ u8 p.status.code ++
        opt 1 (if p.status = .heard then p.prior.map fun q => u8 q.code else none) ++ u8 p.attempts ++ u8 p.recordCount ++
        opt 8 (if 0 < p.recordCount then p.latest.map fun l => u32 l.sequence ++ u8 l.recClass.code ++ evidence l.evidence
          else none) ++
        opt 2 ((s.tx.queue.findIdx? (·.stop == i)).bind fun k => s.tx.queue[k]?.map fun q => u8 k ++ u8 q.origin.code) ++
        opt 1 (if pollInHand.any (·.1 == i) then pollInHand.map fun q => u8 q.2 else none) ++
        opt 29 (if p.status = .heard then inHand i else none)
    answers (.readForeign tag first8 count) 0x44
      (if 63 < first8.toNat then .refused .badValue [0]
      else if count.toNat = 0 ∨ 16 < count.toNat then .refused .badValue [1]
      else if foreign.length ≤ first8.toNat then .refused .notFound (u8 foreign.length)
      else
        (let items := (foreign.zipIdx.drop first8.toNat).take count.toNat;
          .ok (u8 foreign.length ++ u8 items.length ++ items.flatMap fun x =>
            u8 x.2 ++ u32 x.1.meterId.toNat ++ u16 x.1.copies ++ stamp x.1.lastHeard ++ u8 x.1.channel.val ++ u8 x.1.level))) ∧
    answers (.readRevisit tag first16 count) 0x42
      (if shiftGone then route
      else if 4095 < first16.toNat then .refused .badValue [0]
      else if count.toNat = 0 ∨ 64 < count.toNat then .refused .badValue [1]
      else if revisit.length ≤ first16.toNat then .refused .notFound (u16 revisit.length)
      else
        (let items := (revisit.zipIdx.drop first16.toNat).take count.toNat;
          .ok (u16 revisit.length ++ u8 items.length ++ items.flatMap fun x =>
            match s.route.stops[x.1]? with
            | none => []
            | some p => u16 x.2 ++ u16 x.1 ++ u32 p.meterId.toNat ++ u8 p.segment ++ u8 p.status.code))) ∧
    answers (.readSegment tag segment) 0x41
      (if shiftGone then route
      else
        match s.route.segments[segment.toNat]? with
        | none => .refused .badValue [0]
        | some g =>
          .ok (u8 g.state.code ++ u16 g.stopCount ++ u16 g.dwellLimit ++ u8 g.dwellMode.code ++ u16 (g.dwellElapsed / 1000) ++
            u16 g.counts.unread ++ u16 g.counts.heard ++ u16 g.counts.recheck ++ u16 g.counts.read ++ u16 g.counts.flagged ++
            u16 g.counts.missed ++ u16 g.counts.skipped ++ u16 g.late ++ u16 g.lapsed ++
            (if g.state = .opened then
              1 :: u8 (s.tracker.openOrder.idxOf segment.toNat) ++ (1 :: u16 (g.counts.unread + g.counts.heard + g.counts.recheck))
            else [0, 0, 0, 0, 0]))) ∧
    answers (.readRecords tag start count) 0x43
      (if count.toNat = 0 ∨ 8 < count.toNat then .refused .badValue [1]
      else if records = [] then
        .refused .notFound (u32 s.store.nextSequence ++
          (match s.store.records with | [] => [0, 0, 0, 0, 0] | r :: _ => 1 :: u32 r.sequence))
      else
        (let given := records.take count.toNat;
          .ok (u8 given.length ++ given.flatMap record ++ u32 s.store.nextSequence))) ∧
    answers (.readStop tag form key) 0x40
      (if form = 0 then
        if s.route.state = .empty then route
        else
          match s.route.stops[key.toNat]? with
          | none => .refused .badValue [1]
          | some p => .ok (stop key.toNat p)
      else if form = 1 then
        if s.route.state ≠ .active then route
        else
          match s.route.lookup key with
          | none => .refused .notFound []
          | some i =>
            match s.route.stops[i]? with
            | none => .refused .notFound []
            | some p => .ok (stop i p)
      else .refused .badValue [0])

/-- READ_STATUS, READ_COUNTERS and CLEAR_COUNTERS (R177): the targets each takes, the state read as it stands with the command
itself counted (log 30), its items in the order of their rules with the codes of R198, and what each clear sets to zero (R19,
R87, R123, R140, R161, R186). The layout of the replies is the model's where R203 leaves it open (log 17), and so is the code of
the signal indication (log 43). -/
def Obligations.StatusAndCounters : Prop :=
  ∀ (tag target : Byte) (n : ChannelNo) (s : State), s.ready →
    let completes (i : Instr) (kind : Byte) (a : Answer) : Prop := ∃ t, exec i s = .next t ∧ s.completes t kind tag a [] []
    let status (bytes : List Byte) : Prop := completes (.readStatus tag target) 0x45 (.ok bytes)
    let counters (bytes : List Byte) : Prop := completes (.readCounters tag target) 0x46 (.ok bytes)
    let cleared (P : State → Prop) (part : Part) : Prop :=
      ∃ t, exec (.clearCounters tag target) s = .next t ∧ P t ∧ s.completes t 0x50 tag (.ok []) [] [part]
    let bad : Answer := .refused .badValue [0]
    let flag (b : Bool) : Byte := if b then 1 else 0
    let opt (width : Nat) (x : Option (List Byte)) : List Byte :=
      match x with
      | some bytes => 1 :: bytes
      | none => 0 :: List.replicate width 0
    let count (w : Word32) : List Byte := u32 w.toNat
    let entry (e : PlanEntry) : List Byte :=
      [flag e.enabled, flag e.cdUsed, flag !e.cdHigh] ++ u8 e.tag ++ u8 e.degrade ++ u8 e.mute ++ u8 e.recover
    let ch := s.channels[n]
    let q := ch.counters
    let c := s.capture
    let r := s.route
    let st := s.store
    let inState (u : UploadState) : Nat := st.records.countP (·.upload == u)
    let poll : Option (PollEntry × Option Byte × Bool) :=
      match s.tx.state with
      | .idle => none
      | .clearing p _ _ => some (p, none, false)
      | .keyed p token cancelled _ => some (p, some token, cancelled)
      | .listen p token cancelled _ => some (p, some token, cancelled)
    let a := s.tx.counters
    let d := s.dock
    let session := d.link = .ready ∨ d.link = .uploading
    let b := d.counters
    let k : VanCounters := { s.van.counters with taken := s.van.counters.taken + 1 }
    (target.toNat = n.val + 1 →
      status (u8 ch.state.code ++ u8 ch.decoder.code ++ u8 ch.window.attempts ++ u8 ch.window.errors ++ entry ch.entry ++
        opt 7 (ch.pendingEntry.map entry)) ∧
      counters (count q.clean ++ count q.corrected ++ count q.uncorrectable ++ count q.checkFail ++ count q.format ++
        u16 q.syncLoss ++ [q.stateChanges, flag q.wasDegraded, flag q.wasMuted]) ∧
      cleared (fun t => s.otherChannels n t ∧ t.channels[n] = { s.channels[n] with counters :=
        ⟨0, 0, 0, 0, 0, 0, 0, s.channels[n].state == .degraded, s.channels[n].state == .muted⟩ }) .channels) ∧
    (target = 0 → status (u8 r.state.code ++ u16 r.number ++ u16 r.shiftDay ++ u16 r.stops.length ++ u16 r.segments.length ++
      u8 (match r.owner with | some .van => 0 | some .dock => 1 | none => 2) ++ u16 (r.stops.countP (·.static.isSome)) ++
      u8 s.tracker.openOrder.length ++ s.tracker.openOrder.flatMap u8 ++ u8 (c.heard.countP (·.final.isNone)) ++
      u8 (c.heard.countP (·.final.isSome)) ++ u8 c.queue.length ++ [flag s.check.isSome] ++ u8 c.foreign.length)) ∧
    (target = 5 → status (r.profiles.toList.flatMap (fun p =>
        u8 p.lowPct ++ u16 p.highPct ++ u16 p.extremePct ++ u16 p.zeroHours ++ u8 p.backTol) ++
      u8 r.params.confirmCount ++ u8 r.params.holdTime ++ u8 r.params.pollLimit ++ u16 r.params.listenWindow ++
      u16 r.params.storeHigh ++ [flag r.params.foreignReporting] ++
      r.disposition.toList.flatMap fun x => u8 x.recClass.code ++ u8 x.report.code ++ [flag x.recheck])) ∧
    (target = 6 → status (u16 st.records.length ++ u16 (inState .uploaded) ++ u8 (inState .inFlight) ++ u16 (inState .pending) ++
        u16 (inState .pending + inState .inFlight) ++ opt 4 (st.records.head?.map fun x => u32 x.sequence) ++
        opt 4 ((st.records.find? (·.upload == .pending)).map fun x => u32 x.sequence) ++ u32 st.nextSequence ++
        u16 r.params.storeHigh) ∧
      counters (u32 s.store.appends.toNat ++ u32 s.store.reclaims.toNat ++ u32 s.store.drops.toNat) ∧
      cleared (fun t => t.store = { s.store with appends := 0, reclaims := 0, drops := 0 }) .store) ∧
    (target = 7 → status (u8 s.tx.state.code ++ [flag s.tx.inhibit, s.tx.lastToken] ++
        opt 10 (poll.map fun x => u16 x.1.stop ++ u32 x.1.meterId.toNat ++ u8 x.1.origin.code ++
          opt 1 (x.2.1.map fun token => [token]) ++ [flag x.2.2]) ++
        u8 s.tx.queue.length ++ opt 3 (s.tx.queue.head?.map fun p => u16 p.stop ++ u8 p.origin.code)) ∧
      counters (count a.sent ++ count a.satisfied ++ count a.expired ++ count a.failed ++ count a.busy) ∧
      cleared (fun t => t.tx = { s.tx with counters := ⟨if s.tx.state.onAir then 1 else 0, 0, 0, 0, 0⟩ }) .tx) ∧
    (target = 8 → status (u8 d.link.code ++ [flag (!d.settings.detectUsed || d.dsdPin == d.settings.polarityHigh)] ++
        opt 1 (if d.link = .fault then d.faultCause.map fun x => u8 x.code else none) ++ u8 d.failures ++
        opt 1 (if session then d.format.map u8 else none) ++ opt 1 (if session then d.blockSize.map u8 else none) ++
        opt 1 (if session then d.wanted.map fun x => [flag x] else none) ++
        opt 2 (if session then d.depotNumber.map u16 else none) ++
        opt 3 (if session then d.identity.map fun x => u16 x.1 ++ u8 x.2 else none) ++ [d.blockNumber] ++
        opt 6 (d.outstanding.map fun x => u32 x.first ++ u8 x.count ++ u8 x.sends) ++ [flag d.resend.isSome] ++
        u8 d.nakCount ++ opt 1 (d.lastNak.map fun x => u8 x.code) ++ [flag d.suspended, flag d.settings.detectUsed,
          flag !d.settings.polarityHigh] ++ u8 d.settings.threshold) ∧
      counters ([b.linkDown, flag b.wasDown] ++ u16 b.symbolErrors ++ count b.exchangeFailures ++ count b.blocksSent ++
        count b.resends ++ count b.acks ++ count b.naks ++ count b.stray ++ count b.discarded) ∧
      cleared (fun t => t.dock = { s.dock with counters := ⟨0, false, 0, 0, 0, 0, 0, 0, 0, 0⟩ }) .dock) ∧
    (target = 9 → status (u8 s.clock.state.code ++ u16 s.clock.day ++ u24 s.clock.second ++ u16 s.clock.sub ++
      u8 s.clock.source.code ++ [flag s.clock.watchPresent] ++ opt 2 (s.clock.sincePulse.map u16))) ∧
    (target = 10 → status (Cause.all.flatMap (fun x =>
        [flag (s.notice x).pending, flag (s.notice x).announced, flag (s.notice x).masked] ++ u16 (s.notice x).count ++
          opt x.detailWidth (s.notice x).detail) ++ u8 s.van.attnMode.code ++ u8 s.van.outbound.length)) ∧
    (target = 11 → counters (count c.counters.noRoute ++ count c.counters.foreign ++ count c.counters.skipped ++
        count c.counters.duplicate ++ count c.counters.lateCopy ++ count c.counters.overflow ++ count c.counters.beyondLimit ++
        count c.counters.evictions) ∧
      cleared (fun t => t.capture = { s.capture with counters := ⟨0, 0, 0, 0, 0, 0, 0, 0⟩ }) .capture) ∧
    (target = 12 → counters (count k.badLength ++ count k.incomplete ++ count k.badCrc ++ count k.unknownKind ++
        count k.holdFull ++ count k.taken ++ u16 k.reportsLost) ∧
      ∃ t, exec (.clearCounters tag target) s = .next t ∧ s.replies t 0x50 tag (.ok []) ∧ s.raised t [] ∧
        t.van.counters = ⟨0, 0, 0, 0, 0, 0, 0⟩ ∧ t.van.attnMode = s.van.attnMode ∧ s.frame [.van] t) ∧
    (11 ≤ target.toNat → completes (.readStatus tag target) 0x45 bad) ∧
    ((target = 0 ∨ target = 5 ∨ target = 9 ∨ target = 10 ∨ 13 ≤ target.toNat) →
      completes (.readCounters tag target) 0x46 bad ∧ completes (.clearCounters tag target) 0x50 bad) ∧
    (∀ (carrier : CarrierRule) (length guard : Nat) (p : PollEntry) (token : Byte) (x : Bool) (time : Timer),
      [Decoder.off, .hunt, .header carrier, .body carrier length, .blanked].map (·.code) = [0, 1, 2, 3, 4] ∧
      [TxState.idle, .clearing p guard time, .keyed p token x time, .listen p token x time].map (·.code) = [0, 1, 2, 3]) ∧
    [ClockState.unset, .free, .locked].map (·.code) = [0, 1, 2] ∧ [ClockSource.internal, .pps].map (·.code) = [0, 1] ∧
    [Movement.none, .forward, .wrap, .backstep, .backward].map (·.code) = [0, 1, 2, 3, 4] ∧
    [RecClass.billing, .review, .tamper].map (·.code) = [0, 1, 2] ∧
    [UploadState.pending, .inFlight, .uploaded].map (·.code) = [0, 1, 2] ∧
    [Status.unread, .heard, .read, .flagged, .recheck, .missed, .skipped].map (·.code) = [0, 1, 2, 3, 4, 5, 6] ∧
    [RouteState.empty, .loading, .activating, .active, .retired].map (·.code) = [0, 1, 2, 3, 4] ∧
    [SegmentState.pending, .opened, .closed].map (·.code) = [0, 1, 2] ∧ [DwellMode.close, .warn].map (·.code) = [0, 1] ∧
    [ChannelState.off, .active, .degraded, .muted].map (·.code) = [0, 1, 2, 3] ∧
    [LinkState.down, .align, .exchange, .ready, .uploading, .fault].map (·.code) = [0, 1, 2, 3, 4, 5] ∧
    [DockCause.signalUp, .aligned, .exchanged, .signal, .errors, .pageTimeout, .noFormat, .noBlock, .retries, .ackTimeout,
      .dockReset, .suspended].map (·.code) = List.range 12 ∧
    [NakReason.format, .storage].map (·.code) = [1, 2] ∧ [ReportLevel.none, .report, .urgent].map (·.code) = [0, 1, 2] ∧
    [Origin.opened, .recheck, .host].map (·.code) = [0, 1, 2] ∧ [AttnMode.level, .pulse].map (·.code) = [0, 1] ∧
    Cause.all = [.urgentRecord, .reportsLost, .segmentComplete, .segmentClosed, .segmentDwell, .pollFailed, .channelState,
      .storeHigh, .storeFull, .dockState, .uploadDone, .clockState, .loadDone] ∧
    Cause.all.map (·.code.val) = List.range 13 ∧
    Cause.all.map Cause.detailWidth = [7, 3, 1, 6, 2, 10, 3, 4, 6, 3, 10, 8, 5]

/-! ## Supply and start-up -/

/-- The supply monitor (R189, R190, R193): a dip and RESET_N stop all activity from RUN and START, the power-lost mark, the 20
ms of good VDD, the loss of the retained memory while it depends on a VBAK below 1.80 V, and how an interruption ends (the cause
where both end, log 33; lost contents, log 22; when the memory depends on VBAK, log 36). The outputs outside RUN: not driven in
DIP and OFF, driven at rest in HELD and START (R197); in RUN LVLCK runs (R4) and DTX carries the idle symbol between messages
(R143). That POWER_LOST outside DIP and VDD_GOOD outside DIP and OFF change nothing, as rows whose event cannot happen there, is
the model's choice (log 3). -/
def Obligations.SupplyMonitorMoves : Prop :=
  ∀ (rising flat : Bool) (timer : Timer) (s : State),
    let p := s.supply
    let works := p.monitor = .run ∨ p.monitor = .start
    let low := p.monitor = .dip ∨ p.monitor = .off
    let kept (q : Supply) : Supply :=
      if (q.monitor = .dip ∨ q.monitor = .off) ∧ q.vddGood = false ∧ q.vbakLow = true then { q with markerValid := false } else q
    let only (i : Instr) (q : Supply) : Prop := exec i s = .next { s with supply := q }
    let stops (i : Instr) (q : Supply) : Prop :=
      ∃ t, exec i s = .next t ∧ s.resets t ∧ t.supply = kept { q with powerLost := false, goodCount := none, starting := none }
    (works →
      stops .supplyDip { p with monitor := .dip, lastReset := .dip, vddGood := false } ∧
      stops .resetNAssert { p with monitor := .held, lastReset := .pin, resetAsserted := true } ∧
      only .resetNRelease { p with resetAsserted := false }) ∧
    (p.monitor = .held →
      only .supplyDip (kept { p with monitor := .dip, vddGood := false, goodCount := none }) ∧
      only .resetNAssert { p with resetAsserted := true } ∧
      only .resetNRelease { p with monitor := .start, resetAsserted := false }) ∧
    (low →
      only .supplyDip (kept { p with vddGood := false, goodCount := none }) ∧
      only .resetNAssert { p with resetAsserted := true } ∧ only .resetNRelease { p with resetAsserted := false } ∧
      only (.vddGoodLevelCrossing rising)
        (kept { p with vddGood := rising, goodCount := if rising then some ⟨0, 20⟩ else none }) ∧
      (p.goodCount = some timer → timer.limit ≤ timer.elapsed →
        only .vddGood (if p.resetAsserted = true then { p with monitor := .held, lastReset := .pin, goodCount := none }
          else { p with monitor := .start, lastReset := .dip, goodCount := none }))) ∧
    (p.monitor = .dip →
      only .powerLost (kept { p with monitor := .off, powerLost := true, vddGood := false, goodCount := none })) ∧
    (p.monitor ≠ .dip → only .powerLost p) ∧ only (.vbakLow flat) (kept { p with vbakLow := flat }) ∧
    (¬low → only .vddGood p ∧ only (.vddGoodLevelCrossing rising) { p with vddGood := rising }) ∧
    (low →
      s.vtx = .undriven ∧ s.vrdy = .undriven ∧ s.attn = .undriven ∧ s.txkey = .undriven ∧ s.txd = .undriven ∧ s.dtx = .undriven ∧
        s.lvlck = .undriven) ∧
    (p.monitor = .held ∨ p.monitor = .start →
      s.vtx = .drive none ∧ s.vrdy = .drive false ∧ s.attn = .drive false ∧ s.txkey = .drive false ∧ s.txd = .drive none ∧
        s.dtx = .drive .steady ∧ s.lvlck = .drive false) ∧
    (p.monitor = .run → s.lvlck = .drive true ∧ (s.dock.sending = none → s.dtx = .drive .idle))

/-- Start-up (R194 to R196, R63, R125): a cold start sets every retained item to its default; a retained start discards a load,
returns every HEARD stop by the table of R45 and every IN_FLIGHT record to PENDING, and keeps the open order with the dwell timers
at 0. HELLO stands first in the outbound queue, the monitor enters RUN, and the dock link begins DOWN or, with the signal present,
ALIGN. Its steps may be taken in parts, and a start-up abandoned after some of them and begun again reaches the same state, the
steps done staying done (R193; that the row says how far it comes is the model's, log 37). -/
def Obligations.StartUpPutsInOrder : Prop :=
  ∀ s : State, s.supply.monitor = .start → s.supply.starting = none →
    (s.route.state = .empty → s.route.stops = [] ∧ s.route.segments = []) →
    let p := s.supply
    let cause : Nat :=
      if p.markerValid = false then 0
      else match p.lastReset with
        | .command => 3
        | .pin => 4
        | .dip => if p.powerLost then 1 else 2
    let keeps := s.route.state = .active ∨ s.route.state = .retired
    let segment (q : Stop) : SegmentState := s.segmentState q.segment
    let ended (q : Stop) : Bool := segment q == .closed || s.route.state == .retired
    let returned (q : Stop) : Status :=
      match q.prior with
      | some .missed => .missed
      | some .read => .read
      | some .flagged => .flagged
      | some .recheck => if ended q then (if q.latest.any (·.recClass = .billing) then .read else .flagged) else .recheck
      | _ => if segment q = .closed then .missed else .unread
    let heard := (s.route.stops.zipIdx.filter fun x => x.1.status == .heard)
    let dock (settings : DockSettings) (t : State) : Prop :=
      (s.dock.dsdPin ≠ settings.polarityHigh ∧ settings.detectUsed = true →
        t.dock = .initial settings s.dock.dsdPin ∧ t.van.outbound.length = 1 ∧
        ∀ c : Cause, (t.notice c).pending = false) ∧
      (s.dock.dsdPin = settings.polarityHigh ∨ settings.detectUsed = false →
        t.dock = { Dock.initial settings s.dock.dsdPin with link := .align } ∧
        ∀ c : Cause, (t.notice c).pending = (c == .dockState))
    let stopsBack := if cause ≠ 0 ∧ keeps then heard.length else 0
    let recordsBack := if cause ≠ 0 then s.store.inFlightRecords.length else 0
    let hello (cause stops records : Nat) (t : State) : Prop :=
      t.van.outbound.head? = some ⟨0x81, 0,
        [0x04, 0x12, 1] ++ u8 cause ++ u8 t.route.state.code ++ u16 t.route.number ++ u8 t.tracker.openOrder.length ++
          u16 stops ++ u8 records ++ u16 t.store.records.length ++ u16 t.store.fill ++ u32 t.store.nextSequence ++ [0]⟩
    ∃ t, exec (.startUp .hello) s = .next t ∧
      t.supply = { p with monitor := .run, powerLost := false, markerValid := true, starting := none } ∧
      t.capture = .initial ∧ t.check = none ∧ t.clock = .initial ∧ t.van.hold = [] ∧ t.van.counters = .zero ∧
      t.tx = ({ t with tx := .initial } : State).refillScan.tx ∧
      hello cause stopsBack recordsBack t ∧
      (p.markerValid = false →
        t.route = .cold ∧ t.tracker = ⟨[], []⟩ ∧ t.store = ⟨[], 1, 0, 0, 0⟩ ∧ dock ⟨true, true, 16⟩ t ∧ t.van.attnMode = .level ∧
        (∀ c : Cause, (t.notice c).masked = false) ∧
        ∀ k : ChannelNo, t.channels[k] = .initial (.default k.val) s.channels[k].cdPin) ∧
      (p.markerValid = true →
        t.store = { s.store with
          records := s.store.records.map fun r => if r.upload = .inFlight then { r with upload := .pending } else r
          appends := 0, reclaims := 0, drops := 0 } ∧
        dock s.dock.settings t ∧ t.van.attnMode = s.van.attnMode ∧ (∀ c : Cause, (t.notice c).masked = (s.notice c).masked) ∧
        (∀ k : ChannelNo, t.channels[k] = .initial s.channels[k].entry s.channels[k].cdPin) ∧
        t.route.profiles = s.route.profiles ∧ t.route.params = s.route.params ∧ t.route.disposition = s.route.disposition ∧
        (s.route.state = .loading ∨ s.route.state = .activating →
          t.route.state = .empty ∧ t.route.number = 0 ∧ t.route.shiftDay = 0 ∧ t.route.stops = [] ∧ t.route.segments = [] ∧
          t.tracker = ⟨[], []⟩) ∧
        (keeps →
          t.route.state = s.route.state ∧ t.route.number = s.route.number ∧ t.route.shiftDay = s.route.shiftDay ∧
          t.route.stops = s.route.stops.map (fun q =>
            if q.status = .heard then { q with status := returned q, prior := none } else q) ∧
          (∀ n g, s.route.segments[n]? = some g → ∃ h, t.route.segments[n]? = some h ∧
            h.state = g.state ∧ h.stopCount = g.stopCount ∧ h.dwellLimit = g.dwellLimit ∧ h.dwellMode = g.dwellMode ∧
            h.dwellElapsed = 0 ∧ h.late = g.late ∧
            h.lapsed = Nat.repeat (satStep 65535) (heard.countP fun x =>
              x.1.segment == n && x.1.prior == some .recheck && ended x.1) g.lapsed) ∧
          t.tracker = { s.tracker with
            revisit := s.tracker.revisit ++ (heard.filter fun x =>
              returned x.1 == .missed && !s.tracker.revisit.contains x.2).map (·.2) } ∧
          (s.route.state = .active → (s.route.stops.map Stop.meterId).Nodup →
            ∀ x ∈ s.route.stops.zipIdx, t.route.lookup x.1.meterId = some x.2))) ∧
      ∀ k : StartStep, k ≠ .hello →
        ∃ m, exec (.startUp k) s = .next m ∧ m.supply.monitor = .start ∧ exec (.startUp .hello) m = .next t ∧
          ∃ held released u, exec .resetNAssert m = .next held ∧ exec .resetNRelease held = .next released ∧
            exec (.startUp .hello) released = .next u ∧ t.frame [.supply, .van] u ∧
            hello 4 (if k = .stops ∨ k = .records ∨ k = .dwell then 0 else stopsBack)
              (if k = .records ∨ k = .dwell then 0 else recordsBack) u
end

