-- ==== Sys2Proof/Laws/Check.lean ====
section
/-! SUPPORT. What the stages of a check can find, said once (R95 to R99). -/

namespace Sys2Proof.Machine

/-- The five ways through stages 1 and 2 (R95 to R97). -/
theorem Check.findings_cases (c : Check) :
    (10 ^ c.static.digits ≤ c.entry.best.reading.toNat ∧
      c.findings = ⟨.none, 0, none, none, none, .none, { c.entry.evidence with range := true }⟩) ∨
    (c.entry.best.reading.toNat < 10 ^ c.static.digits ∧ c.static.previous = none ∧
      c.findings = ⟨.none, 0, none, none, none, .none, { c.entry.evidence with noBase := true }⟩) ∨
    (c.entry.best.reading.toNat < 10 ^ c.static.digits ∧ ∃ old, c.static.previous = some old ∧
      ((old ≤ c.entry.best.reading.toNat ∧
          c.findings = c.timed .forward (c.entry.best.reading.toNat - old) c.entry.evidence) ∨
        (c.entry.best.reading.toNat < old ∧
          9 * 10 ^ (c.static.digits - 1) ≤ old ∧ c.entry.best.reading.toNat < 10 ^ (c.static.digits - 1) ∧
          c.findings = c.timed .wrap (c.entry.best.reading.toNat + 10 ^ c.static.digits - old)
            { c.entry.evidence with wrap := true }) ∨
        (c.entry.best.reading.toNat < old ∧
          ¬(9 * 10 ^ (c.static.digits - 1) ≤ old ∧ c.entry.best.reading.toNat < 10 ^ (c.static.digits - 1)) ∧
          old - c.entry.best.reading.toNat ≤ c.profile.backTol ∧
          c.findings = c.timed .backstep 0 { c.entry.evidence with backstep := true }) ∨
        (c.entry.best.reading.toNat < old ∧
          ¬(9 * 10 ^ (c.static.digits - 1) ≤ old ∧ c.entry.best.reading.toNat < 10 ^ (c.static.digits - 1)) ∧
          c.profile.backTol < old - c.entry.best.reading.toNat ∧
          c.findings = ⟨.backward, old - c.entry.best.reading.toNat, none, none, none, .none,
            { c.entry.evidence with rollback := true }⟩))) := by
  by_cases h : c.entry.best.reading.toNat < 10 ^ c.static.digits
  · cases hp : c.static.previous with
    | none => exact .inr (.inl ⟨h, rfl, by simp [Check.findings, inRange, h, hp]⟩)
    | some old =>
      refine .inr (.inr ⟨h, old, rfl, ?_⟩)
      simp only [Check.findings, inRange, h, hp, decide_true, Bool.not_true, Bool.false_eq_true, if_false, movementOf]
      by_cases h1 : old ≤ c.entry.best.reading.toNat
      · exact .inl ⟨h1, by simp only [h1, if_true]⟩
      · have h1' : c.entry.best.reading.toNat < old := by omega
        by_cases h2 : 9 * 10 ^ (c.static.digits - 1) ≤ old ∧ c.entry.best.reading.toNat < 10 ^ (c.static.digits - 1)
        · exact .inr (.inl ⟨h1', h2.1, h2.2, by simp only [h1, h2, and_self, if_true, if_false]⟩)
        · by_cases h3 : old - c.entry.best.reading.toNat ≤ c.profile.backTol
          · exact .inr (.inr (.inl ⟨h1', h2, h3, by simp only [h1, h2, h3, if_true, if_false]⟩))
          · exact .inr (.inr (.inr ⟨h1', h2, by omega, by simp only [h1, h2, h3, if_false]⟩))
  · exact .inl ⟨by omega, by simp [Check.findings, inRange, h]⟩

/-- Stages 3 and 4 without a usable time (R98). -/
theorem Check.timed_none (c : Check) (m : Movement) (a : Nat) (e : Evidence)
    (h : (hoursKept c.static.previousDay c.static.previousHour c.entry.firstHeard).1 = none) :
    c.timed m a e = ⟨m, a, none, none, none, .none, { e with noTime := true }⟩ := by
  simp only [Check.timed, h]

/-- Stages 3 and 4 with the hours kept (R98 to R101). -/
theorem Check.timed_some (c : Check) (m : Movement) (a : Nat) (e : Evidence) (h : Nat)
    (hh : (hoursKept c.static.previousDay c.static.previousHour c.entry.firstHeard).1 = some h) :
    c.timed m a e =
      ⟨m, a, some h, some (rateOf a h).1, some (ratioOf c.static.expected (rateOf a h).1).1,
        bandsOf c.profile (ratioOf c.static.expected (rateOf a h).1).1 a h,
        { e with
          longGap := (hoursKept c.static.previousDay c.static.previousHour c.entry.firstHeard).2
          rateSat := (rateOf a h).2
          noExpect := (ratioOf c.static.expected (rateOf a h).1).2 }⟩ := by
  simp only [Check.timed, hh]

end Sys2Proof.Machine
end

