-- ==== Sys2Proof/Laws/State.lean ====
section
/-! SUPPORT. One lemma per field per block update, each true by unfolding the update once. -/

namespace Sys2Proof.Machine

variable (s : State)

@[simp] theorem State.modSupply_pending (f : Supply → Supply) : (s.modSupply f).pending = s.pending := rfl
@[simp] theorem State.modSupply_supply (f : Supply → Supply) : (s.modSupply f).supply = f s.supply := rfl
@[simp] theorem State.modSupply_channels (f : Supply → Supply) : (s.modSupply f).channels = s.channels := rfl
@[simp] theorem State.modSupply_capture (f : Supply → Supply) : (s.modSupply f).capture = s.capture := rfl
@[simp] theorem State.modSupply_route (f : Supply → Supply) : (s.modSupply f).route = s.route := rfl
@[simp] theorem State.modSupply_tracker (f : Supply → Supply) : (s.modSupply f).tracker = s.tracker := rfl
@[simp] theorem State.modSupply_check (f : Supply → Supply) : (s.modSupply f).check = s.check := rfl
@[simp] theorem State.modSupply_store (f : Supply → Supply) : (s.modSupply f).store = s.store := rfl
@[simp] theorem State.modSupply_tx (f : Supply → Supply) : (s.modSupply f).tx = s.tx := rfl
@[simp] theorem State.modSupply_dock (f : Supply → Supply) : (s.modSupply f).dock = s.dock := rfl
@[simp] theorem State.modSupply_clock (f : Supply → Supply) : (s.modSupply f).clock = s.clock := rfl
@[simp] theorem State.modSupply_van (f : Supply → Supply) : (s.modSupply f).van = s.van := rfl
@[simp] theorem State.modSupply_freeUses (f : Supply → Supply) : (s.modSupply f).freeUses = s.freeUses := rfl

@[simp] theorem State.modChannels_pending (f : Vector Channel 4 → Vector Channel 4) : (s.modChannels f).pending = s.pending := rfl
@[simp] theorem State.modChannels_supply (f : Vector Channel 4 → Vector Channel 4) : (s.modChannels f).supply = s.supply := rfl
@[simp] theorem State.modChannels_channels (f : Vector Channel 4 → Vector Channel 4) : (s.modChannels f).channels = f s.channels := rfl
@[simp] theorem State.modChannels_capture (f : Vector Channel 4 → Vector Channel 4) : (s.modChannels f).capture = s.capture := rfl
@[simp] theorem State.modChannels_route (f : Vector Channel 4 → Vector Channel 4) : (s.modChannels f).route = s.route := rfl
@[simp] theorem State.modChannels_tracker (f : Vector Channel 4 → Vector Channel 4) : (s.modChannels f).tracker = s.tracker := rfl
@[simp] theorem State.modChannels_check (f : Vector Channel 4 → Vector Channel 4) : (s.modChannels f).check = s.check := rfl
@[simp] theorem State.modChannels_store (f : Vector Channel 4 → Vector Channel 4) : (s.modChannels f).store = s.store := rfl
@[simp] theorem State.modChannels_tx (f : Vector Channel 4 → Vector Channel 4) : (s.modChannels f).tx = s.tx := rfl
@[simp] theorem State.modChannels_dock (f : Vector Channel 4 → Vector Channel 4) : (s.modChannels f).dock = s.dock := rfl
@[simp] theorem State.modChannels_clock (f : Vector Channel 4 → Vector Channel 4) : (s.modChannels f).clock = s.clock := rfl
@[simp] theorem State.modChannels_van (f : Vector Channel 4 → Vector Channel 4) : (s.modChannels f).van = s.van := rfl
@[simp] theorem State.modChannels_freeUses (f : Vector Channel 4 → Vector Channel 4) : (s.modChannels f).freeUses = s.freeUses := rfl

@[simp] theorem State.modCapture_pending (f : Capture → Capture) : (s.modCapture f).pending = s.pending := rfl
@[simp] theorem State.modCapture_supply (f : Capture → Capture) : (s.modCapture f).supply = s.supply := rfl
@[simp] theorem State.modCapture_channels (f : Capture → Capture) : (s.modCapture f).channels = s.channels := rfl
@[simp] theorem State.modCapture_capture (f : Capture → Capture) : (s.modCapture f).capture = f s.capture := rfl
@[simp] theorem State.modCapture_route (f : Capture → Capture) : (s.modCapture f).route = s.route := rfl
@[simp] theorem State.modCapture_tracker (f : Capture → Capture) : (s.modCapture f).tracker = s.tracker := rfl
@[simp] theorem State.modCapture_check (f : Capture → Capture) : (s.modCapture f).check = s.check := rfl
@[simp] theorem State.modCapture_store (f : Capture → Capture) : (s.modCapture f).store = s.store := rfl
@[simp] theorem State.modCapture_tx (f : Capture → Capture) : (s.modCapture f).tx = s.tx := rfl
@[simp] theorem State.modCapture_dock (f : Capture → Capture) : (s.modCapture f).dock = s.dock := rfl
@[simp] theorem State.modCapture_clock (f : Capture → Capture) : (s.modCapture f).clock = s.clock := rfl
@[simp] theorem State.modCapture_van (f : Capture → Capture) : (s.modCapture f).van = s.van := rfl
@[simp] theorem State.modCapture_freeUses (f : Capture → Capture) : (s.modCapture f).freeUses = s.freeUses := rfl

@[simp] theorem State.modRoute_pending (f : Route → Route) : (s.modRoute f).pending = s.pending := rfl
@[simp] theorem State.modRoute_supply (f : Route → Route) : (s.modRoute f).supply = s.supply := rfl
@[simp] theorem State.modRoute_channels (f : Route → Route) : (s.modRoute f).channels = s.channels := rfl
@[simp] theorem State.modRoute_capture (f : Route → Route) : (s.modRoute f).capture = s.capture := rfl
@[simp] theorem State.modRoute_route (f : Route → Route) : (s.modRoute f).route = f s.route := rfl
@[simp] theorem State.modRoute_tracker (f : Route → Route) : (s.modRoute f).tracker = s.tracker := rfl
@[simp] theorem State.modRoute_check (f : Route → Route) : (s.modRoute f).check = s.check := rfl
@[simp] theorem State.modRoute_store (f : Route → Route) : (s.modRoute f).store = s.store := rfl
@[simp] theorem State.modRoute_tx (f : Route → Route) : (s.modRoute f).tx = s.tx := rfl
@[simp] theorem State.modRoute_dock (f : Route → Route) : (s.modRoute f).dock = s.dock := rfl
@[simp] theorem State.modRoute_clock (f : Route → Route) : (s.modRoute f).clock = s.clock := rfl
@[simp] theorem State.modRoute_van (f : Route → Route) : (s.modRoute f).van = s.van := rfl
@[simp] theorem State.modRoute_freeUses (f : Route → Route) : (s.modRoute f).freeUses = s.freeUses := rfl

@[simp] theorem State.modTracker_pending (f : Tracker → Tracker) : (s.modTracker f).pending = s.pending := rfl
@[simp] theorem State.modTracker_supply (f : Tracker → Tracker) : (s.modTracker f).supply = s.supply := rfl
@[simp] theorem State.modTracker_channels (f : Tracker → Tracker) : (s.modTracker f).channels = s.channels := rfl
@[simp] theorem State.modTracker_capture (f : Tracker → Tracker) : (s.modTracker f).capture = s.capture := rfl
@[simp] theorem State.modTracker_route (f : Tracker → Tracker) : (s.modTracker f).route = s.route := rfl
@[simp] theorem State.modTracker_tracker (f : Tracker → Tracker) : (s.modTracker f).tracker = f s.tracker := rfl
@[simp] theorem State.modTracker_check (f : Tracker → Tracker) : (s.modTracker f).check = s.check := rfl
@[simp] theorem State.modTracker_store (f : Tracker → Tracker) : (s.modTracker f).store = s.store := rfl
@[simp] theorem State.modTracker_tx (f : Tracker → Tracker) : (s.modTracker f).tx = s.tx := rfl
@[simp] theorem State.modTracker_dock (f : Tracker → Tracker) : (s.modTracker f).dock = s.dock := rfl
@[simp] theorem State.modTracker_clock (f : Tracker → Tracker) : (s.modTracker f).clock = s.clock := rfl
@[simp] theorem State.modTracker_van (f : Tracker → Tracker) : (s.modTracker f).van = s.van := rfl
@[simp] theorem State.modTracker_freeUses (f : Tracker → Tracker) : (s.modTracker f).freeUses = s.freeUses := rfl

@[simp] theorem State.modCheck_pending (f : Option Check → Option Check) : (s.modCheck f).pending = s.pending := rfl
@[simp] theorem State.modCheck_supply (f : Option Check → Option Check) : (s.modCheck f).supply = s.supply := rfl
@[simp] theorem State.modCheck_channels (f : Option Check → Option Check) : (s.modCheck f).channels = s.channels := rfl
@[simp] theorem State.modCheck_capture (f : Option Check → Option Check) : (s.modCheck f).capture = s.capture := rfl
@[simp] theorem State.modCheck_route (f : Option Check → Option Check) : (s.modCheck f).route = s.route := rfl
@[simp] theorem State.modCheck_tracker (f : Option Check → Option Check) : (s.modCheck f).tracker = s.tracker := rfl
@[simp] theorem State.modCheck_check (f : Option Check → Option Check) : (s.modCheck f).check = f s.check := rfl
@[simp] theorem State.modCheck_store (f : Option Check → Option Check) : (s.modCheck f).store = s.store := rfl
@[simp] theorem State.modCheck_tx (f : Option Check → Option Check) : (s.modCheck f).tx = s.tx := rfl
@[simp] theorem State.modCheck_dock (f : Option Check → Option Check) : (s.modCheck f).dock = s.dock := rfl
@[simp] theorem State.modCheck_clock (f : Option Check → Option Check) : (s.modCheck f).clock = s.clock := rfl
@[simp] theorem State.modCheck_van (f : Option Check → Option Check) : (s.modCheck f).van = s.van := rfl
@[simp] theorem State.modCheck_freeUses (f : Option Check → Option Check) : (s.modCheck f).freeUses = s.freeUses := rfl

@[simp] theorem State.modStore_pending (f : Store → Store) : (s.modStore f).pending = s.pending := rfl
@[simp] theorem State.modStore_supply (f : Store → Store) : (s.modStore f).supply = s.supply := rfl
@[simp] theorem State.modStore_channels (f : Store → Store) : (s.modStore f).channels = s.channels := rfl
@[simp] theorem State.modStore_capture (f : Store → Store) : (s.modStore f).capture = s.capture := rfl
@[simp] theorem State.modStore_route (f : Store → Store) : (s.modStore f).route = s.route := rfl
@[simp] theorem State.modStore_tracker (f : Store → Store) : (s.modStore f).tracker = s.tracker := rfl
@[simp] theorem State.modStore_check (f : Store → Store) : (s.modStore f).check = s.check := rfl
@[simp] theorem State.modStore_store (f : Store → Store) : (s.modStore f).store = f s.store := rfl
@[simp] theorem State.modStore_tx (f : Store → Store) : (s.modStore f).tx = s.tx := rfl
@[simp] theorem State.modStore_dock (f : Store → Store) : (s.modStore f).dock = s.dock := rfl
@[simp] theorem State.modStore_clock (f : Store → Store) : (s.modStore f).clock = s.clock := rfl
@[simp] theorem State.modStore_van (f : Store → Store) : (s.modStore f).van = s.van := rfl
@[simp] theorem State.modStore_freeUses (f : Store → Store) : (s.modStore f).freeUses = s.freeUses := rfl

@[simp] theorem State.modTx_pending (f : Transmitter → Transmitter) : (s.modTx f).pending = s.pending := rfl
@[simp] theorem State.modTx_supply (f : Transmitter → Transmitter) : (s.modTx f).supply = s.supply := rfl
@[simp] theorem State.modTx_channels (f : Transmitter → Transmitter) : (s.modTx f).channels = s.channels := rfl
@[simp] theorem State.modTx_capture (f : Transmitter → Transmitter) : (s.modTx f).capture = s.capture := rfl
@[simp] theorem State.modTx_route (f : Transmitter → Transmitter) : (s.modTx f).route = s.route := rfl
@[simp] theorem State.modTx_tracker (f : Transmitter → Transmitter) : (s.modTx f).tracker = s.tracker := rfl
@[simp] theorem State.modTx_check (f : Transmitter → Transmitter) : (s.modTx f).check = s.check := rfl
@[simp] theorem State.modTx_store (f : Transmitter → Transmitter) : (s.modTx f).store = s.store := rfl
@[simp] theorem State.modTx_tx (f : Transmitter → Transmitter) : (s.modTx f).tx = f s.tx := rfl
@[simp] theorem State.modTx_dock (f : Transmitter → Transmitter) : (s.modTx f).dock = s.dock := rfl
@[simp] theorem State.modTx_clock (f : Transmitter → Transmitter) : (s.modTx f).clock = s.clock := rfl
@[simp] theorem State.modTx_van (f : Transmitter → Transmitter) : (s.modTx f).van = s.van := rfl
@[simp] theorem State.modTx_freeUses (f : Transmitter → Transmitter) : (s.modTx f).freeUses = s.freeUses := rfl

@[simp] theorem State.modDock_pending (f : Dock → Dock) : (s.modDock f).pending = s.pending := rfl
@[simp] theorem State.modDock_supply (f : Dock → Dock) : (s.modDock f).supply = s.supply := rfl
@[simp] theorem State.modDock_channels (f : Dock → Dock) : (s.modDock f).channels = s.channels := rfl
@[simp] theorem State.modDock_capture (f : Dock → Dock) : (s.modDock f).capture = s.capture := rfl
@[simp] theorem State.modDock_route (f : Dock → Dock) : (s.modDock f).route = s.route := rfl
@[simp] theorem State.modDock_tracker (f : Dock → Dock) : (s.modDock f).tracker = s.tracker := rfl
@[simp] theorem State.modDock_check (f : Dock → Dock) : (s.modDock f).check = s.check := rfl
@[simp] theorem State.modDock_store (f : Dock → Dock) : (s.modDock f).store = s.store := rfl
@[simp] theorem State.modDock_tx (f : Dock → Dock) : (s.modDock f).tx = s.tx := rfl
@[simp] theorem State.modDock_dock (f : Dock → Dock) : (s.modDock f).dock = f s.dock := rfl
@[simp] theorem State.modDock_clock (f : Dock → Dock) : (s.modDock f).clock = s.clock := rfl
@[simp] theorem State.modDock_van (f : Dock → Dock) : (s.modDock f).van = s.van := rfl
@[simp] theorem State.modDock_freeUses (f : Dock → Dock) : (s.modDock f).freeUses = s.freeUses := rfl

@[simp] theorem State.modClock_pending (f : Clock → Clock) : (s.modClock f).pending = s.pending := rfl
@[simp] theorem State.modClock_supply (f : Clock → Clock) : (s.modClock f).supply = s.supply := rfl
@[simp] theorem State.modClock_channels (f : Clock → Clock) : (s.modClock f).channels = s.channels := rfl
@[simp] theorem State.modClock_capture (f : Clock → Clock) : (s.modClock f).capture = s.capture := rfl
@[simp] theorem State.modClock_route (f : Clock → Clock) : (s.modClock f).route = s.route := rfl
@[simp] theorem State.modClock_tracker (f : Clock → Clock) : (s.modClock f).tracker = s.tracker := rfl
@[simp] theorem State.modClock_check (f : Clock → Clock) : (s.modClock f).check = s.check := rfl
@[simp] theorem State.modClock_store (f : Clock → Clock) : (s.modClock f).store = s.store := rfl
@[simp] theorem State.modClock_tx (f : Clock → Clock) : (s.modClock f).tx = s.tx := rfl
@[simp] theorem State.modClock_dock (f : Clock → Clock) : (s.modClock f).dock = s.dock := rfl
@[simp] theorem State.modClock_clock (f : Clock → Clock) : (s.modClock f).clock = f s.clock := rfl
@[simp] theorem State.modClock_van (f : Clock → Clock) : (s.modClock f).van = s.van := rfl
@[simp] theorem State.modClock_freeUses (f : Clock → Clock) : (s.modClock f).freeUses = s.freeUses := rfl

@[simp] theorem State.modVan_pending (f : Van → Van) : (s.modVan f).pending = s.pending := rfl
@[simp] theorem State.modVan_supply (f : Van → Van) : (s.modVan f).supply = s.supply := rfl
@[simp] theorem State.modVan_channels (f : Van → Van) : (s.modVan f).channels = s.channels := rfl
@[simp] theorem State.modVan_capture (f : Van → Van) : (s.modVan f).capture = s.capture := rfl
@[simp] theorem State.modVan_route (f : Van → Van) : (s.modVan f).route = s.route := rfl
@[simp] theorem State.modVan_tracker (f : Van → Van) : (s.modVan f).tracker = s.tracker := rfl
@[simp] theorem State.modVan_check (f : Van → Van) : (s.modVan f).check = s.check := rfl
@[simp] theorem State.modVan_store (f : Van → Van) : (s.modVan f).store = s.store := rfl
@[simp] theorem State.modVan_tx (f : Van → Van) : (s.modVan f).tx = s.tx := rfl
@[simp] theorem State.modVan_dock (f : Van → Van) : (s.modVan f).dock = s.dock := rfl
@[simp] theorem State.modVan_clock (f : Van → Van) : (s.modVan f).clock = s.clock := rfl
@[simp] theorem State.modVan_van (f : Van → Van) : (s.modVan f).van = f s.van := rfl
@[simp] theorem State.modVan_freeUses (f : Van → Van) : (s.modVan f).freeUses = s.freeUses := rfl

@[simp] theorem State.drawFree_pending : s.drawFree.pending = s.pending := rfl
@[simp] theorem State.drawFree_supply : s.drawFree.supply = s.supply := rfl
@[simp] theorem State.drawFree_channels : s.drawFree.channels = s.channels := rfl
@[simp] theorem State.drawFree_capture : s.drawFree.capture = s.capture := rfl
@[simp] theorem State.drawFree_route : s.drawFree.route = s.route := rfl
@[simp] theorem State.drawFree_tracker : s.drawFree.tracker = s.tracker := rfl
@[simp] theorem State.drawFree_check : s.drawFree.check = s.check := rfl
@[simp] theorem State.drawFree_store : s.drawFree.store = s.store := rfl
@[simp] theorem State.drawFree_tx : s.drawFree.tx = s.tx := rfl
@[simp] theorem State.drawFree_dock : s.drawFree.dock = s.dock := rfl
@[simp] theorem State.drawFree_clock : s.drawFree.clock = s.clock := rfl
@[simp] theorem State.drawFree_van : s.drawFree.van = s.van := rfl
@[simp] theorem State.drawFree_freeUses : s.drawFree.freeUses = s.freeUses + 1 := rfl

end Sys2Proof.Machine
end

