-- ==== Sys2Proof/Laws/FrameOps.lean ====
section
/-! SUPPORT. What the shared operations of Ops.lean leave unchanged: one lemma for each operation. -/

namespace Sys2Proof.Machine

variable (s : State)

/-- A fold whose step keeps a value keeps it. -/
theorem foldl_keeps {α β γ : Type} (g : β → γ) (f : β → α → β) (h : ∀ b a, g (f b a) = g b) :
    ∀ (l : List α) (b : β), g (l.foldl f b) = g b
  | [], _ => rfl
  | a :: l, b => by rw [List.foldl_cons, foldl_keeps g f h l, h]

/-- Only one channel can change. -/
@[simp] theorem State.modChannel_frame (ch : ChannelNo) (f : Channel → Channel) :
    (s.modChannel ch f).pending = s.pending ∧ (s.modChannel ch f).supply = s.supply ∧
    (s.modChannel ch f).capture = s.capture ∧ (s.modChannel ch f).route = s.route ∧ (s.modChannel ch f).tracker = s.tracker ∧
    (s.modChannel ch f).check = s.check ∧ (s.modChannel ch f).store = s.store ∧ (s.modChannel ch f).tx = s.tx ∧
    (s.modChannel ch f).dock = s.dock ∧ (s.modChannel ch f).clock = s.clock ∧ (s.modChannel ch f).van = s.van ∧
    (s.modChannel ch f).freeUses = s.freeUses := by
  simp only [State.modChannel]
  all_goals simp

/-- Only the count of free values can change. -/
@[simp] theorem State.drawFree_frame :
    (s.drawFree).pending = s.pending ∧ (s.drawFree).supply = s.supply ∧ (s.drawFree).channels = s.channels ∧
    (s.drawFree).capture = s.capture ∧ (s.drawFree).route = s.route ∧ (s.drawFree).tracker = s.tracker ∧
    (s.drawFree).check = s.check ∧ (s.drawFree).store = s.store ∧ (s.drawFree).tx = s.tx ∧ (s.drawFree).dock = s.dock ∧
    (s.drawFree).clock = s.clock ∧ (s.drawFree).van = s.van := by
  simp only [State.drawFree]
  all_goals simp

/-- Only the stop table can change. -/
@[simp] theorem State.modStop_frame (i : Nat) (f : Stop → Stop) :
    (s.modStop i f).pending = s.pending ∧ (s.modStop i f).supply = s.supply ∧ (s.modStop i f).channels = s.channels ∧
    (s.modStop i f).capture = s.capture ∧ (s.modStop i f).tracker = s.tracker ∧ (s.modStop i f).check = s.check ∧
    (s.modStop i f).store = s.store ∧ (s.modStop i f).tx = s.tx ∧ (s.modStop i f).dock = s.dock ∧
    (s.modStop i f).clock = s.clock ∧ (s.modStop i f).van = s.van ∧ (s.modStop i f).freeUses = s.freeUses := by
  simp only [State.modStop]
  all_goals simp

/-- Only the segment table can change. -/
@[simp] theorem State.modSegment_frame (n : Nat) (f : Segment → Segment) :
    (s.modSegment n f).pending = s.pending ∧ (s.modSegment n f).supply = s.supply ∧
    (s.modSegment n f).channels = s.channels ∧ (s.modSegment n f).capture = s.capture ∧
    (s.modSegment n f).tracker = s.tracker ∧ (s.modSegment n f).check = s.check ∧ (s.modSegment n f).store = s.store ∧
    (s.modSegment n f).tx = s.tx ∧ (s.modSegment n f).dock = s.dock ∧ (s.modSegment n f).clock = s.clock ∧
    (s.modSegment n f).van = s.van ∧ (s.modSegment n f).freeUses = s.freeUses := by
  simp only [State.modSegment]
  all_goals simp

/-- Only one cause can change. -/
@[simp] theorem State.modNotice_frame (c : Cause) (f : Notice → Notice) :
    (s.modNotice c f).pending = s.pending ∧ (s.modNotice c f).supply = s.supply ∧ (s.modNotice c f).channels = s.channels ∧
    (s.modNotice c f).capture = s.capture ∧ (s.modNotice c f).route = s.route ∧ (s.modNotice c f).tracker = s.tracker ∧
    (s.modNotice c f).check = s.check ∧ (s.modNotice c f).store = s.store ∧ (s.modNotice c f).tx = s.tx ∧
    (s.modNotice c f).dock = s.dock ∧ (s.modNotice c f).clock = s.clock ∧ (s.modNotice c f).freeUses = s.freeUses := by
  simp only [State.modNotice]
  all_goals simp

/-- Only the notice state can change. -/
@[simp] theorem State.occur_frame (c : Cause) (d : List Byte) :
    (s.occur c d).pending = s.pending ∧ (s.occur c d).supply = s.supply ∧ (s.occur c d).channels = s.channels ∧
    (s.occur c d).capture = s.capture ∧ (s.occur c d).route = s.route ∧ (s.occur c d).tracker = s.tracker ∧
    (s.occur c d).check = s.check ∧ (s.occur c d).store = s.store ∧ (s.occur c d).tx = s.tx ∧ (s.occur c d).dock = s.dock ∧
    (s.occur c d).clock = s.clock ∧ (s.occur c d).freeUses = s.freeUses := by
  simp only [State.occur]
  all_goals simp

/-- Only the outbound queue can change. -/
@[simp] theorem State.queueMessage_frame (m : Message) :
    (s.queueMessage m).pending = s.pending ∧ (s.queueMessage m).supply = s.supply ∧
    (s.queueMessage m).channels = s.channels ∧ (s.queueMessage m).capture = s.capture ∧ (s.queueMessage m).route = s.route ∧
    (s.queueMessage m).tracker = s.tracker ∧ (s.queueMessage m).check = s.check ∧ (s.queueMessage m).store = s.store ∧
    (s.queueMessage m).tx = s.tx ∧ (s.queueMessage m).dock = s.dock ∧ (s.queueMessage m).clock = s.clock ∧
    (s.queueMessage m).freeUses = s.freeUses := by
  simp only [State.queueMessage]
  all_goals simp

/-- Only the outbound queue and the notice state can change. -/
@[simp] theorem State.announce_frame (c : Cause) :
    (s.announce c).pending = s.pending ∧ (s.announce c).supply = s.supply ∧ (s.announce c).channels = s.channels ∧
    (s.announce c).capture = s.capture ∧ (s.announce c).route = s.route ∧ (s.announce c).tracker = s.tracker ∧
    (s.announce c).check = s.check ∧ (s.announce c).store = s.store ∧ (s.announce c).tx = s.tx ∧
    (s.announce c).dock = s.dock ∧ (s.announce c).clock = s.clock ∧ (s.announce c).freeUses = s.freeUses := by
  simp only [State.announce]
  repeat' split
  all_goals simp

/-- Only the van link can change. -/
@[simp] theorem State.announceList_frame (cs : List Cause) :
    (s.announceList cs).pending = s.pending ∧ (s.announceList cs).supply = s.supply ∧
    (s.announceList cs).channels = s.channels ∧ (s.announceList cs).capture = s.capture ∧
    (s.announceList cs).route = s.route ∧ (s.announceList cs).tracker = s.tracker ∧ (s.announceList cs).check = s.check ∧
    (s.announceList cs).store = s.store ∧ (s.announceList cs).tx = s.tx ∧ (s.announceList cs).dock = s.dock ∧
    (s.announceList cs).clock = s.clock ∧ (s.announceList cs).freeUses = s.freeUses := by
  simp only [State.announceList]
  refine ⟨foldl_keeps _ _ (by simp) _ _, foldl_keeps _ _ (by simp) _ _, foldl_keeps _ _ (by simp) _ _,
    foldl_keeps _ _ (by simp) _ _, foldl_keeps _ _ (by simp) _ _, foldl_keeps _ _ (by simp) _ _,
    foldl_keeps _ _ (by simp) _ _, foldl_keeps _ _ (by simp) _ _, foldl_keeps _ _ (by simp) _ _,
    foldl_keeps _ _ (by simp) _ _, foldl_keeps _ _ (by simp) _ _, foldl_keeps _ _ (by simp) _ _⟩

/-- Only the van link can change. -/
@[simp] theorem State.announceDue_frame :
    (s.announceDue).pending = s.pending ∧ (s.announceDue).supply = s.supply ∧ (s.announceDue).channels = s.channels ∧
    (s.announceDue).capture = s.capture ∧ (s.announceDue).route = s.route ∧ (s.announceDue).tracker = s.tracker ∧
    (s.announceDue).check = s.check ∧ (s.announceDue).store = s.store ∧ (s.announceDue).tx = s.tx ∧
    (s.announceDue).dock = s.dock ∧ (s.announceDue).clock = s.clock ∧ (s.announceDue).freeUses = s.freeUses := by
  simp only [State.announceDue]
  all_goals simp

/-- Only the van link can change. -/
@[simp] theorem State.queueReport_frame (k : Byte) (b : List Byte) :
    (s.queueReport k b).pending = s.pending ∧ (s.queueReport k b).supply = s.supply ∧
    (s.queueReport k b).channels = s.channels ∧ (s.queueReport k b).capture = s.capture ∧
    (s.queueReport k b).route = s.route ∧ (s.queueReport k b).tracker = s.tracker ∧ (s.queueReport k b).check = s.check ∧
    (s.queueReport k b).store = s.store ∧ (s.queueReport k b).tx = s.tx ∧ (s.queueReport k b).dock = s.dock ∧
    (s.queueReport k b).clock = s.clock ∧ (s.queueReport k b).freeUses = s.freeUses := by
  simp only [State.queueReport]
  repeat' split
  all_goals simp

end Sys2Proof.Machine
end

