-- ==== Sys2Proof/Laws/FramePoll.lean ====
section
/-! SUPPORT. What the poll operations leave unchanged: one lemma for each operation. -/

namespace Sys2Proof.Machine

variable (s : State)

/-- Only the poll queue can change. -/
@[simp] theorem State.pushPoll_frame (p : PollEntry) :
    (s.pushPoll p).pending = s.pending ∧ (s.pushPoll p).supply = s.supply ∧ (s.pushPoll p).channels = s.channels ∧
    (s.pushPoll p).capture = s.capture ∧ (s.pushPoll p).route = s.route ∧ (s.pushPoll p).tracker = s.tracker ∧
    (s.pushPoll p).check = s.check ∧ (s.pushPoll p).store = s.store ∧ (s.pushPoll p).dock = s.dock ∧
    (s.pushPoll p).clock = s.clock ∧ (s.pushPoll p).van = s.van ∧ (s.pushPoll p).freeUses = s.freeUses := by
  simp only [State.pushPoll]
  all_goals simp

/-- Only the poll queue can change. -/
@[simp] theorem State.scanStop_frame (i : Nat) :
    (s.scanStop i).pending = s.pending ∧ (s.scanStop i).supply = s.supply ∧ (s.scanStop i).channels = s.channels ∧
    (s.scanStop i).capture = s.capture ∧ (s.scanStop i).route = s.route ∧ (s.scanStop i).tracker = s.tracker ∧
    (s.scanStop i).check = s.check ∧ (s.scanStop i).store = s.store ∧ (s.scanStop i).dock = s.dock ∧
    (s.scanStop i).clock = s.clock ∧ (s.scanStop i).van = s.van ∧ (s.scanStop i).freeUses = s.freeUses := by
  simp only [State.scanStop]
  repeat' split
  all_goals simp

/-- Only the poll queue can change. -/
@[simp] theorem State.refillScan_frame :
    (s.refillScan).pending = s.pending ∧ (s.refillScan).supply = s.supply ∧ (s.refillScan).channels = s.channels ∧
    (s.refillScan).capture = s.capture ∧ (s.refillScan).route = s.route ∧ (s.refillScan).tracker = s.tracker ∧
    (s.refillScan).check = s.check ∧ (s.refillScan).store = s.store ∧ (s.refillScan).dock = s.dock ∧
    (s.refillScan).clock = s.clock ∧ (s.refillScan).van = s.van ∧ (s.refillScan).freeUses = s.freeUses := by
  simp only [State.refillScan]
  refine ⟨foldl_keeps _ _ (by simp) _ _, foldl_keeps _ _ (by simp) _ _, foldl_keeps _ _ (by simp) _ _,
    foldl_keeps _ _ (by simp) _ _, foldl_keeps _ _ (by simp) _ _, foldl_keeps _ _ (by simp) _ _,
    foldl_keeps _ _ (by simp) _ _, foldl_keeps _ _ (by simp) _ _, foldl_keeps _ _ (by simp) _ _,
    foldl_keeps _ _ (by simp) _ _, foldl_keeps _ _ (by simp) _ _, foldl_keeps _ _ (by simp) _ _⟩

/-- Only the poll queue can change. -/
@[simp] theorem State.scanIf_frame (b : Bool) :
    (s.scanIf b).pending = s.pending ∧ (s.scanIf b).supply = s.supply ∧ (s.scanIf b).channels = s.channels ∧
    (s.scanIf b).capture = s.capture ∧ (s.scanIf b).route = s.route ∧ (s.scanIf b).tracker = s.tracker ∧
    (s.scanIf b).check = s.check ∧ (s.scanIf b).store = s.store ∧ (s.scanIf b).dock = s.dock ∧ (s.scanIf b).clock = s.clock ∧
    (s.scanIf b).van = s.van ∧ (s.scanIf b).freeUses = s.freeUses := by
  simp only [State.scanIf]
  repeat' split
  all_goals simp

/-- Only the transmitter can change. -/
@[simp] theorem State.dropPolls_frame (f : Nat → Bool) :
    (s.dropPolls f).pending = s.pending ∧ (s.dropPolls f).supply = s.supply ∧ (s.dropPolls f).channels = s.channels ∧
    (s.dropPolls f).capture = s.capture ∧ (s.dropPolls f).route = s.route ∧ (s.dropPolls f).tracker = s.tracker ∧
    (s.dropPolls f).check = s.check ∧ (s.dropPolls f).store = s.store ∧ (s.dropPolls f).dock = s.dock ∧
    (s.dropPolls f).clock = s.clock ∧ (s.dropPolls f).van = s.van ∧ (s.dropPolls f).freeUses = s.freeUses := by
  simp only [State.dropPolls]
  all_goals simp

/-- Only the transmitter can change. -/
@[simp] theorem State.removePolls_frame (f : Nat → Bool) :
    (s.removePolls f).pending = s.pending ∧ (s.removePolls f).supply = s.supply ∧ (s.removePolls f).channels = s.channels ∧
    (s.removePolls f).capture = s.capture ∧ (s.removePolls f).route = s.route ∧ (s.removePolls f).tracker = s.tracker ∧
    (s.removePolls f).check = s.check ∧ (s.removePolls f).store = s.store ∧ (s.removePolls f).dock = s.dock ∧
    (s.removePolls f).clock = s.clock ∧ (s.removePolls f).van = s.van ∧ (s.removePolls f).freeUses = s.freeUses := by
  simp only [State.removePolls]
  all_goals simp

/-- Only the transmitter can change. -/
@[simp] theorem State.satisfyPoll_frame :
    (s.satisfyPoll).pending = s.pending ∧ (s.satisfyPoll).supply = s.supply ∧ (s.satisfyPoll).channels = s.channels ∧
    (s.satisfyPoll).capture = s.capture ∧ (s.satisfyPoll).route = s.route ∧ (s.satisfyPoll).tracker = s.tracker ∧
    (s.satisfyPoll).check = s.check ∧ (s.satisfyPoll).store = s.store ∧ (s.satisfyPoll).dock = s.dock ∧
    (s.satisfyPoll).clock = s.clock ∧ (s.satisfyPoll).van = s.van ∧ (s.satisfyPoll).freeUses = s.freeUses := by
  simp only [State.satisfyPoll]
  all_goals simp

/-- Only the transmitter can change. -/
@[simp] theorem State.txIdle_frame (f : Transmitter → Transmitter) :
    (s.txIdle f).pending = s.pending ∧ (s.txIdle f).supply = s.supply ∧ (s.txIdle f).channels = s.channels ∧
    (s.txIdle f).capture = s.capture ∧ (s.txIdle f).route = s.route ∧ (s.txIdle f).tracker = s.tracker ∧
    (s.txIdle f).check = s.check ∧ (s.txIdle f).store = s.store ∧ (s.txIdle f).dock = s.dock ∧ (s.txIdle f).clock = s.clock ∧
    (s.txIdle f).van = s.van ∧ (s.txIdle f).freeUses = s.freeUses := by
  simp only [State.txIdle]
  all_goals simp

end Sys2Proof.Machine
end

