-- ==== Sys2Proof/Laws/FrameTracker.lean ====
section
/-! SUPPORT. What the tracker operations, finalisation and the close rule leave unchanged: one lemma for each operation. -/

namespace Sys2Proof.Machine

variable (s : State)

/-- Only the stop and its segment can change. -/
@[simp] theorem State.setStatus_frame (i : Nat) (st : Status) (pr : Option Status) :
    (s.setStatus i st pr).pending = s.pending ∧ (s.setStatus i st pr).supply = s.supply ∧
    (s.setStatus i st pr).channels = s.channels ∧ (s.setStatus i st pr).capture = s.capture ∧
    (s.setStatus i st pr).tracker = s.tracker ∧ (s.setStatus i st pr).check = s.check ∧
    (s.setStatus i st pr).store = s.store ∧ (s.setStatus i st pr).tx = s.tx ∧ (s.setStatus i st pr).dock = s.dock ∧
    (s.setStatus i st pr).clock = s.clock ∧ (s.setStatus i st pr).van = s.van ∧
    (s.setStatus i st pr).freeUses = s.freeUses := by
  simp only [State.setStatus]
  repeat' split
  all_goals simp

/-- Only the notice state can change. -/
@[simp] theorem State.noteComplete_frame (n before : Nat) :
    (s.noteComplete n before).pending = s.pending ∧ (s.noteComplete n before).supply = s.supply ∧
    (s.noteComplete n before).channels = s.channels ∧ (s.noteComplete n before).capture = s.capture ∧
    (s.noteComplete n before).route = s.route ∧ (s.noteComplete n before).tracker = s.tracker ∧
    (s.noteComplete n before).check = s.check ∧ (s.noteComplete n before).store = s.store ∧
    (s.noteComplete n before).tx = s.tx ∧ (s.noteComplete n before).dock = s.dock ∧
    (s.noteComplete n before).clock = s.clock ∧ (s.noteComplete n before).freeUses = s.freeUses := by
  simp only [State.noteComplete]
  repeat' split
  all_goals simp

/-- Only the revisit list can change. -/
@[simp] theorem State.joinRevisit_frame (i : Nat) :
    (s.joinRevisit i).pending = s.pending ∧ (s.joinRevisit i).supply = s.supply ∧ (s.joinRevisit i).channels = s.channels ∧
    (s.joinRevisit i).capture = s.capture ∧ (s.joinRevisit i).route = s.route ∧ (s.joinRevisit i).check = s.check ∧
    (s.joinRevisit i).store = s.store ∧ (s.joinRevisit i).tx = s.tx ∧ (s.joinRevisit i).dock = s.dock ∧
    (s.joinRevisit i).clock = s.clock ∧ (s.joinRevisit i).van = s.van ∧ (s.joinRevisit i).freeUses = s.freeUses := by
  simp only [State.joinRevisit]
  all_goals simp

/-- Only the revisit list can change. -/
@[simp] theorem State.leaveRevisit_frame (i : Nat) :
    (s.leaveRevisit i).pending = s.pending ∧ (s.leaveRevisit i).supply = s.supply ∧
    (s.leaveRevisit i).channels = s.channels ∧ (s.leaveRevisit i).capture = s.capture ∧ (s.leaveRevisit i).route = s.route ∧
    (s.leaveRevisit i).check = s.check ∧ (s.leaveRevisit i).store = s.store ∧ (s.leaveRevisit i).tx = s.tx ∧
    (s.leaveRevisit i).dock = s.dock ∧ (s.leaveRevisit i).clock = s.clock ∧ (s.leaveRevisit i).van = s.van ∧
    (s.leaveRevisit i).freeUses = s.freeUses := by
  simp only [State.leaveRevisit]
  all_goals simp

/-- Only the segment can change. -/
@[simp] theorem State.stepLate_frame (n : Nat) :
    (s.stepLate n).pending = s.pending ∧ (s.stepLate n).supply = s.supply ∧ (s.stepLate n).channels = s.channels ∧
    (s.stepLate n).capture = s.capture ∧ (s.stepLate n).tracker = s.tracker ∧ (s.stepLate n).check = s.check ∧
    (s.stepLate n).store = s.store ∧ (s.stepLate n).tx = s.tx ∧ (s.stepLate n).dock = s.dock ∧
    (s.stepLate n).clock = s.clock ∧ (s.stepLate n).van = s.van ∧ (s.stepLate n).freeUses = s.freeUses := by
  simp only [State.stepLate]
  all_goals simp

/-- Only the segment can change. -/
@[simp] theorem State.stepLapsed_frame (n : Nat) :
    (s.stepLapsed n).pending = s.pending ∧ (s.stepLapsed n).supply = s.supply ∧ (s.stepLapsed n).channels = s.channels ∧
    (s.stepLapsed n).capture = s.capture ∧ (s.stepLapsed n).tracker = s.tracker ∧ (s.stepLapsed n).check = s.check ∧
    (s.stepLapsed n).store = s.store ∧ (s.stepLapsed n).tx = s.tx ∧ (s.stepLapsed n).dock = s.dock ∧
    (s.stepLapsed n).clock = s.clock ∧ (s.stepLapsed n).van = s.van ∧ (s.stepLapsed n).freeUses = s.freeUses := by
  simp only [State.stepLapsed]
  all_goals simp

/-- Only the stop, its segment and the revisit list can change. -/
@[simp] theorem State.returnStop_frame (i : Nat) :
    (s.returnStop i).pending = s.pending ∧ (s.returnStop i).supply = s.supply ∧ (s.returnStop i).channels = s.channels ∧
    (s.returnStop i).capture = s.capture ∧ (s.returnStop i).check = s.check ∧ (s.returnStop i).store = s.store ∧
    (s.returnStop i).tx = s.tx ∧ (s.returnStop i).dock = s.dock ∧ (s.returnStop i).clock = s.clock ∧
    (s.returnStop i).van = s.van ∧ (s.returnStop i).freeUses = s.freeUses := by
  simp only [State.returnStop]
  repeat' split
  all_goals simp

/-- Only the stop, its segment and the revisit list can change. -/
@[simp] theorem State.missStop_frame (i : Nat) :
    (s.missStop i).pending = s.pending ∧ (s.missStop i).supply = s.supply ∧ (s.missStop i).channels = s.channels ∧
    (s.missStop i).capture = s.capture ∧ (s.missStop i).check = s.check ∧ (s.missStop i).store = s.store ∧
    (s.missStop i).tx = s.tx ∧ (s.missStop i).dock = s.dock ∧ (s.missStop i).clock = s.clock ∧ (s.missStop i).van = s.van ∧
    (s.missStop i).freeUses = s.freeUses := by
  simp only [State.missStop]
  all_goals simp

/-- Only the stop and its segment can change. -/
@[simp] theorem State.lapseStop_frame (i : Nat) :
    (s.lapseStop i).pending = s.pending ∧ (s.lapseStop i).supply = s.supply ∧ (s.lapseStop i).channels = s.channels ∧
    (s.lapseStop i).capture = s.capture ∧ (s.lapseStop i).tracker = s.tracker ∧ (s.lapseStop i).check = s.check ∧
    (s.lapseStop i).store = s.store ∧ (s.lapseStop i).tx = s.tx ∧ (s.lapseStop i).dock = s.dock ∧
    (s.lapseStop i).clock = s.clock ∧ (s.lapseStop i).van = s.van ∧ (s.lapseStop i).freeUses = s.freeUses := by
  simp only [State.lapseStop]
  repeat' split
  all_goals simp

/-- Only the capture filter can change. -/
@[simp] theorem State.finalise_frame (i : Nat) :
    (s.finalise i).pending = s.pending ∧ (s.finalise i).supply = s.supply ∧ (s.finalise i).channels = s.channels ∧
    (s.finalise i).route = s.route ∧ (s.finalise i).tracker = s.tracker ∧ (s.finalise i).check = s.check ∧
    (s.finalise i).store = s.store ∧ (s.finalise i).tx = s.tx ∧ (s.finalise i).dock = s.dock ∧
    (s.finalise i).clock = s.clock ∧ (s.finalise i).van = s.van ∧ (s.finalise i).freeUses = s.freeUses := by
  simp only [State.finalise]
  repeat' split
  all_goals simp

/-- Only the capture filter can change. -/
@[simp] theorem State.finaliseAll_frame (es : List Entry) :
    (s.finaliseAll es).pending = s.pending ∧ (s.finaliseAll es).supply = s.supply ∧
    (s.finaliseAll es).channels = s.channels ∧ (s.finaliseAll es).route = s.route ∧ (s.finaliseAll es).tracker = s.tracker ∧
    (s.finaliseAll es).check = s.check ∧ (s.finaliseAll es).store = s.store ∧ (s.finaliseAll es).tx = s.tx ∧
    (s.finaliseAll es).dock = s.dock ∧ (s.finaliseAll es).clock = s.clock ∧ (s.finaliseAll es).van = s.van ∧
    (s.finaliseAll es).freeUses = s.freeUses := by
  simp only [State.finaliseAll]
  refine ⟨foldl_keeps _ _ (by simp) _ _, foldl_keeps _ _ (by simp) _ _, foldl_keeps _ _ (by simp) _ _,
    foldl_keeps _ _ (by simp) _ _, foldl_keeps _ _ (by simp) _ _, foldl_keeps _ _ (by simp) _ _,
    foldl_keeps _ _ (by simp) _ _, foldl_keeps _ _ (by simp) _ _, foldl_keeps _ _ (by simp) _ _,
    foldl_keeps _ _ (by simp) _ _, foldl_keeps _ _ (by simp) _ _, foldl_keeps _ _ (by simp) _ _⟩

/-- Only the tracker, the transmitter, the capture filter and the notice state can change. -/
@[simp] theorem State.closeRule_frame (n : Nat) (cause : CloseCause) :
    (s.closeRule n cause).pending = s.pending ∧ (s.closeRule n cause).supply = s.supply ∧
    (s.closeRule n cause).channels = s.channels ∧ (s.closeRule n cause).check = s.check ∧
    (s.closeRule n cause).store = s.store ∧ (s.closeRule n cause).dock = s.dock ∧ (s.closeRule n cause).clock = s.clock ∧
    (s.closeRule n cause).freeUses = s.freeUses := by
  simp only [State.closeRule]
  refine ⟨?_,
    ?_,
    ?_,
    ?_,
    ?_,
    ?_,
    ?_,
    ?_⟩ <;>
    simp [foldl_keeps, *]

end Sys2Proof.Machine
end

