-- ==== Sys2Proof/Laws/FrameCapture.lean ====
section
/-! SUPPORT. What the operations of the capture filter leave unchanged: one lemma for each. -/

namespace Sys2Proof.Machine

variable (s : State)

/-- Only the capture filter can change. -/
@[simp] theorem State.countCapture_frame (f : CaptureCounters → CaptureCounters) :
    (s.countCapture f).pending = s.pending ∧ (s.countCapture f).supply = s.supply ∧
    (s.countCapture f).channels = s.channels ∧ (s.countCapture f).route = s.route ∧ (s.countCapture f).tracker = s.tracker ∧
    (s.countCapture f).check = s.check ∧ (s.countCapture f).store = s.store ∧ (s.countCapture f).tx = s.tx ∧
    (s.countCapture f).dock = s.dock ∧ (s.countCapture f).clock = s.clock ∧ (s.countCapture f).van = s.van ∧
    (s.countCapture f).freeUses = s.freeUses := by
  simp only [State.countCapture]
  all_goals simp

/-- Only the foreign list and the van link can change. -/
@[simp] theorem State.foreignSighting_frame (f : Frame) :
    (s.foreignSighting f).pending = s.pending ∧ (s.foreignSighting f).supply = s.supply ∧
    (s.foreignSighting f).channels = s.channels ∧ (s.foreignSighting f).route = s.route ∧
    (s.foreignSighting f).tracker = s.tracker ∧ (s.foreignSighting f).check = s.check ∧
    (s.foreignSighting f).store = s.store ∧ (s.foreignSighting f).tx = s.tx ∧ (s.foreignSighting f).dock = s.dock ∧
    (s.foreignSighting f).clock = s.clock ∧ (s.foreignSighting f).freeUses = s.freeUses := by
  simp only [State.foreignSighting]
  repeat' split
  all_goals simp

/-- Only the capture filter can change. -/
@[simp] theorem State.testFinal_frame (i : Nat) :
    (s.testFinal i).pending = s.pending ∧ (s.testFinal i).supply = s.supply ∧ (s.testFinal i).channels = s.channels ∧
    (s.testFinal i).route = s.route ∧ (s.testFinal i).tracker = s.tracker ∧ (s.testFinal i).check = s.check ∧
    (s.testFinal i).store = s.store ∧ (s.testFinal i).tx = s.tx ∧ (s.testFinal i).dock = s.dock ∧
    (s.testFinal i).clock = s.clock ∧ (s.testFinal i).van = s.van ∧ (s.testFinal i).freeUses = s.freeUses := by
  simp only [State.testFinal]
  repeat' split
  all_goals simp

/-- Only the capture filter, the stop and the transmitter can change. -/
@[simp] theorem State.openEntry_frame (i : Nat) (p : Status) (f : Frame) (m u : Bool) :
    (s.openEntry i p f m u).pending = s.pending ∧ (s.openEntry i p f m u).supply = s.supply ∧
    (s.openEntry i p f m u).channels = s.channels ∧ (s.openEntry i p f m u).tracker = s.tracker ∧
    (s.openEntry i p f m u).check = s.check ∧ (s.openEntry i p f m u).store = s.store ∧
    (s.openEntry i p f m u).dock = s.dock ∧ (s.openEntry i p f m u).clock = s.clock ∧ (s.openEntry i p f m u).van = s.van ∧
    (s.openEntry i p f m u).freeUses = s.freeUses := by
  simp only [State.openEntry]
  all_goals simp

/-- Only the capture filter, the stop and the transmitter can change. -/
@[simp] theorem State.openOrEvict_frame (i : Nat) (p : Status) (f : Frame) (m u : Bool) :
    (s.openOrEvict i p f m u).pending = s.pending ∧ (s.openOrEvict i p f m u).supply = s.supply ∧
    (s.openOrEvict i p f m u).channels = s.channels ∧ (s.openOrEvict i p f m u).tracker = s.tracker ∧
    (s.openOrEvict i p f m u).check = s.check ∧ (s.openOrEvict i p f m u).store = s.store ∧
    (s.openOrEvict i p f m u).dock = s.dock ∧ (s.openOrEvict i p f m u).clock = s.clock ∧
    (s.openOrEvict i p f m u).van = s.van ∧ (s.openOrEvict i p f m u).freeUses = s.freeUses := by
  simp only [State.openOrEvict]
  repeat' split
  all_goals simp

/-- Only the capture filter can change. -/
@[simp] theorem State.addCopy_frame (i d : Nat) (f : Frame) (m : Bool) :
    (s.addCopy i d f m).pending = s.pending ∧ (s.addCopy i d f m).supply = s.supply ∧
    (s.addCopy i d f m).channels = s.channels ∧ (s.addCopy i d f m).route = s.route ∧
    (s.addCopy i d f m).tracker = s.tracker ∧ (s.addCopy i d f m).check = s.check ∧ (s.addCopy i d f m).store = s.store ∧
    (s.addCopy i d f m).tx = s.tx ∧ (s.addCopy i d f m).dock = s.dock ∧ (s.addCopy i d f m).clock = s.clock ∧
    (s.addCopy i d f m).van = s.van ∧ (s.addCopy i d f m).freeUses = s.freeUses := by
  simp only [State.addCopy]
  all_goals simp

/-- Only the capture filter, the stop, the transmitter and the van link can change. -/
@[simp] theorem State.settledFrame_frame (i : Nat) (p : Stop) (f : Frame) (m : Bool) :
    (s.settledFrame i p f m).pending = s.pending ∧ (s.settledFrame i p f m).supply = s.supply ∧
    (s.settledFrame i p f m).channels = s.channels ∧ (s.settledFrame i p f m).tracker = s.tracker ∧
    (s.settledFrame i p f m).check = s.check ∧ (s.settledFrame i p f m).store = s.store ∧
    (s.settledFrame i p f m).dock = s.dock ∧ (s.settledFrame i p f m).clock = s.clock ∧
    (s.settledFrame i p f m).freeUses = s.freeUses := by
  simp only [State.settledFrame]
  repeat' split
  all_goals simp

/-- Only the capture filter can change. -/
@[simp] theorem State.heardFrame_frame (i : Nat) (p : Stop) (f : Frame) (m : Bool) :
    (s.heardFrame i p f m).pending = s.pending ∧ (s.heardFrame i p f m).supply = s.supply ∧
    (s.heardFrame i p f m).channels = s.channels ∧ (s.heardFrame i p f m).route = s.route ∧
    (s.heardFrame i p f m).tracker = s.tracker ∧ (s.heardFrame i p f m).check = s.check ∧
    (s.heardFrame i p f m).store = s.store ∧ (s.heardFrame i p f m).tx = s.tx ∧ (s.heardFrame i p f m).dock = s.dock ∧
    (s.heardFrame i p f m).clock = s.clock ∧ (s.heardFrame i p f m).van = s.van ∧
    (s.heardFrame i p f m).freeUses = s.freeUses := by
  simp only [State.heardFrame]
  repeat' split
  all_goals simp

/-- Only the capture filter, the stop, the transmitter and the van link can change. -/
@[simp] theorem State.stopFrame_frame (i : Nat) (p : Stop) (f : Frame) (m : Bool) :
    (s.stopFrame i p f m).pending = s.pending ∧ (s.stopFrame i p f m).supply = s.supply ∧
    (s.stopFrame i p f m).channels = s.channels ∧ (s.stopFrame i p f m).tracker = s.tracker ∧
    (s.stopFrame i p f m).check = s.check ∧ (s.stopFrame i p f m).store = s.store ∧ (s.stopFrame i p f m).dock = s.dock ∧
    (s.stopFrame i p f m).clock = s.clock ∧ (s.stopFrame i p f m).freeUses = s.freeUses := by
  simp only [State.stopFrame]
  repeat' split
  all_goals simp

/-- Only the capture filter, the stop, the transmitter and the van link can change. -/
@[simp] theorem State.classify_frame (f : Frame) (m : Bool) :
    (s.classify f m).pending = s.pending ∧ (s.classify f m).supply = s.supply ∧ (s.classify f m).channels = s.channels ∧
    (s.classify f m).tracker = s.tracker ∧ (s.classify f m).check = s.check ∧ (s.classify f m).store = s.store ∧
    (s.classify f m).dock = s.dock ∧ (s.classify f m).clock = s.clock ∧ (s.classify f m).freeUses = s.freeUses := by
  simp only [State.classify]
  repeat' split
  all_goals simp

/-- Only the capture filter can change. -/
@[simp] theorem State.expireEntry_frame (i : Nat) (t : Entry → Timer) :
    (s.expireEntry i t).pending = s.pending ∧ (s.expireEntry i t).supply = s.supply ∧
    (s.expireEntry i t).channels = s.channels ∧ (s.expireEntry i t).route = s.route ∧
    (s.expireEntry i t).tracker = s.tracker ∧ (s.expireEntry i t).check = s.check ∧ (s.expireEntry i t).store = s.store ∧
    (s.expireEntry i t).tx = s.tx ∧ (s.expireEntry i t).dock = s.dock ∧ (s.expireEntry i t).clock = s.clock ∧
    (s.expireEntry i t).van = s.van ∧ (s.expireEntry i t).freeUses = s.freeUses := by
  simp only [State.expireEntry]
  repeat' split
  all_goals simp

end Sys2Proof.Machine
end

