-- ==== Sys2Proof/Laws/FrameChannel.lean ====
section
/-! SUPPORT. What the channel operations leave unchanged: one lemma for each operation. -/

namespace Sys2Proof.Machine

variable (s : State)

/-- Only the guard time can change. -/
@[simp] theorem State.guardWatch_frame :
    (s.guardWatch).pending = s.pending ∧ (s.guardWatch).supply = s.supply ∧ (s.guardWatch).channels = s.channels ∧
    (s.guardWatch).capture = s.capture ∧ (s.guardWatch).route = s.route ∧ (s.guardWatch).tracker = s.tracker ∧
    (s.guardWatch).check = s.check ∧ (s.guardWatch).store = s.store ∧ (s.guardWatch).dock = s.dock ∧
    (s.guardWatch).clock = s.clock ∧ (s.guardWatch).van = s.van ∧ (s.guardWatch).freeUses = s.freeUses := by
  simp only [State.guardWatch]
  repeat' split
  all_goals simp

/-- Only the channel and the notice state can change. -/
@[simp] theorem State.setChannelState_frame (ch : ChannelNo) (st : ChannelState) :
    (s.setChannelState ch st).pending = s.pending ∧ (s.setChannelState ch st).supply = s.supply ∧
    (s.setChannelState ch st).capture = s.capture ∧ (s.setChannelState ch st).route = s.route ∧
    (s.setChannelState ch st).tracker = s.tracker ∧ (s.setChannelState ch st).check = s.check ∧
    (s.setChannelState ch st).store = s.store ∧ (s.setChannelState ch st).tx = s.tx ∧
    (s.setChannelState ch st).dock = s.dock ∧ (s.setChannelState ch st).clock = s.clock ∧
    (s.setChannelState ch st).freeUses = s.freeUses := by
  simp only [State.setChannelState]
  all_goals simp

/-- Only the channel and the notice state can change. -/
@[simp] theorem State.closeWindow_frame (ch : ChannelNo) :
    (s.closeWindow ch).pending = s.pending ∧ (s.closeWindow ch).supply = s.supply ∧ (s.closeWindow ch).capture = s.capture ∧
    (s.closeWindow ch).route = s.route ∧ (s.closeWindow ch).tracker = s.tracker ∧ (s.closeWindow ch).check = s.check ∧
    (s.closeWindow ch).store = s.store ∧ (s.closeWindow ch).tx = s.tx ∧ (s.closeWindow ch).dock = s.dock ∧
    (s.closeWindow ch).clock = s.clock ∧ (s.closeWindow ch).freeUses = s.freeUses := by
  simp only [State.closeWindow]
  repeat' split
  all_goals simp

/-- Only the channel, the guard time and the notice state can change. -/
@[simp] theorem State.endAttempt_frame (ch : ChannelNo) (o : DecodeOutcome) :
    (s.endAttempt ch o).pending = s.pending ∧ (s.endAttempt ch o).supply = s.supply ∧
    (s.endAttempt ch o).capture = s.capture ∧ (s.endAttempt ch o).route = s.route ∧ (s.endAttempt ch o).tracker = s.tracker ∧
    (s.endAttempt ch o).check = s.check ∧ (s.endAttempt ch o).store = s.store ∧ (s.endAttempt ch o).dock = s.dock ∧
    (s.endAttempt ch o).clock = s.clock ∧ (s.endAttempt ch o).freeUses = s.freeUses := by
  simp only [State.endAttempt]
  repeat' split
  all_goals simp

/-- Only the channel can change. -/
@[simp] theorem State.streamRuns_frame (ch : ChannelNo) :
    (s.streamRuns ch).pending = s.pending ∧ (s.streamRuns ch).supply = s.supply ∧ (s.streamRuns ch).capture = s.capture ∧
    (s.streamRuns ch).route = s.route ∧ (s.streamRuns ch).tracker = s.tracker ∧ (s.streamRuns ch).check = s.check ∧
    (s.streamRuns ch).store = s.store ∧ (s.streamRuns ch).tx = s.tx ∧ (s.streamRuns ch).dock = s.dock ∧
    (s.streamRuns ch).clock = s.clock ∧ (s.streamRuns ch).van = s.van ∧ (s.streamRuns ch).freeUses = s.freeUses := by
  simp only [State.streamRuns]
  all_goals simp

/-- Only the frames handed on can change. -/
@[simp] theorem State.handOn_frame (ch : ChannelNo) (fec : Fec) (b : List Byte) (ls : List (BitVec 7)) :
    (s.handOn ch fec b ls).pending = s.pending ∧ (s.handOn ch fec b ls).supply = s.supply ∧
    (s.handOn ch fec b ls).channels = s.channels ∧ (s.handOn ch fec b ls).route = s.route ∧
    (s.handOn ch fec b ls).tracker = s.tracker ∧ (s.handOn ch fec b ls).check = s.check ∧
    (s.handOn ch fec b ls).store = s.store ∧ (s.handOn ch fec b ls).tx = s.tx ∧ (s.handOn ch fec b ls).dock = s.dock ∧
    (s.handOn ch fec b ls).clock = s.clock ∧ (s.handOn ch fec b ls).van = s.van ∧
    (s.handOn ch fec b ls).freeUses = s.freeUses := by
  simp only [State.handOn]
  repeat' split
  all_goals simp

/-- Only the pin can change. -/
@[simp] theorem State.setCarrier_frame (ch : ChannelNo) (b : Bool) :
    (s.setCarrier ch b).pending = s.pending ∧ (s.setCarrier ch b).supply = s.supply ∧
    (s.setCarrier ch b).capture = s.capture ∧ (s.setCarrier ch b).route = s.route ∧ (s.setCarrier ch b).tracker = s.tracker ∧
    (s.setCarrier ch b).check = s.check ∧ (s.setCarrier ch b).store = s.store ∧ (s.setCarrier ch b).tx = s.tx ∧
    (s.setCarrier ch b).dock = s.dock ∧ (s.setCarrier ch b).clock = s.clock ∧ (s.setCarrier ch b).van = s.van ∧
    (s.setCarrier ch b).freeUses = s.freeUses := by
  simp only [State.setCarrier]
  all_goals simp

end Sys2Proof.Machine
end

