-- ==== Sys2Proof/Laws/FrameDock.lean ====
section
/-! SUPPORT. What the dock link operations leave unchanged: one lemma for each operation. -/

namespace Sys2Proof.Machine

variable (s : State)

/-- Only the dock link can change. -/
@[simp] theorem State.countDock_frame (f : DockCounters → DockCounters) :
    (s.countDock f).pending = s.pending ∧ (s.countDock f).supply = s.supply ∧ (s.countDock f).channels = s.channels ∧
    (s.countDock f).capture = s.capture ∧ (s.countDock f).route = s.route ∧ (s.countDock f).tracker = s.tracker ∧
    (s.countDock f).check = s.check ∧ (s.countDock f).store = s.store ∧ (s.countDock f).tx = s.tx ∧
    (s.countDock f).clock = s.clock ∧ (s.countDock f).van = s.van ∧ (s.countDock f).freeUses = s.freeUses := by
  simp only [State.countDock]
  all_goals simp

/-- Only the dock link can change. -/
@[simp] theorem State.discardDock_frame :
    (s.discardDock).pending = s.pending ∧ (s.discardDock).supply = s.supply ∧ (s.discardDock).channels = s.channels ∧
    (s.discardDock).capture = s.capture ∧ (s.discardDock).route = s.route ∧ (s.discardDock).tracker = s.tracker ∧
    (s.discardDock).check = s.check ∧ (s.discardDock).store = s.store ∧ (s.discardDock).tx = s.tx ∧
    (s.discardDock).clock = s.clock ∧ (s.discardDock).van = s.van ∧ (s.discardDock).freeUses = s.freeUses := by
  simp only [State.discardDock]
  all_goals simp

/-- Only the dock link and the notice state can change. -/
@[simp] theorem State.setLink_frame (l : LinkState) (c : DockCause) :
    (s.setLink l c).pending = s.pending ∧ (s.setLink l c).supply = s.supply ∧ (s.setLink l c).channels = s.channels ∧
    (s.setLink l c).capture = s.capture ∧ (s.setLink l c).route = s.route ∧ (s.setLink l c).tracker = s.tracker ∧
    (s.setLink l c).check = s.check ∧ (s.setLink l c).store = s.store ∧ (s.setLink l c).tx = s.tx ∧
    (s.setLink l c).clock = s.clock ∧ (s.setLink l c).freeUses = s.freeUses := by
  simp only [State.setLink]
  all_goals simp

/-- Only the dock link can change. -/
@[simp] theorem State.queueDock_frame (r : DockRole) (k : Byte) (b : List Byte) :
    (s.queueDock r k b).pending = s.pending ∧ (s.queueDock r k b).supply = s.supply ∧
    (s.queueDock r k b).channels = s.channels ∧ (s.queueDock r k b).capture = s.capture ∧
    (s.queueDock r k b).route = s.route ∧ (s.queueDock r k b).tracker = s.tracker ∧ (s.queueDock r k b).check = s.check ∧
    (s.queueDock r k b).store = s.store ∧ (s.queueDock r k b).tx = s.tx ∧ (s.queueDock r k b).clock = s.clock ∧
    (s.queueDock r k b).van = s.van ∧ (s.queueDock r k b).freeUses = s.freeUses := by
  simp only [State.queueDock]
  all_goals simp

/-- Only the route book and the tracker can change. -/
@[simp] theorem State.abandonRoute_frame :
    (s.abandonRoute).pending = s.pending ∧ (s.abandonRoute).supply = s.supply ∧ (s.abandonRoute).channels = s.channels ∧
    (s.abandonRoute).capture = s.capture ∧ (s.abandonRoute).check = s.check ∧ (s.abandonRoute).store = s.store ∧
    (s.abandonRoute).tx = s.tx ∧ (s.abandonRoute).dock = s.dock ∧ (s.abandonRoute).clock = s.clock ∧
    (s.abandonRoute).van = s.van ∧ (s.abandonRoute).freeUses = s.freeUses := by
  simp only [State.abandonRoute]
  all_goals simp

/-- Only the route book and the tracker can change. -/
@[simp] theorem State.discardDockLoad_frame :
    (s.discardDockLoad).pending = s.pending ∧ (s.discardDockLoad).supply = s.supply ∧
    (s.discardDockLoad).channels = s.channels ∧ (s.discardDockLoad).capture = s.capture ∧
    (s.discardDockLoad).check = s.check ∧ (s.discardDockLoad).store = s.store ∧ (s.discardDockLoad).tx = s.tx ∧
    (s.discardDockLoad).dock = s.dock ∧ (s.discardDockLoad).clock = s.clock ∧ (s.discardDockLoad).van = s.van ∧
    (s.discardDockLoad).freeUses = s.freeUses := by
  simp only [State.discardDockLoad]
  repeat' split
  all_goals simp

/-- Only a dock-owned load, the upload states and the dock link can change. -/
@[simp] theorem State.leaveLink_frame :
    (s.leaveLink).pending = s.pending ∧ (s.leaveLink).supply = s.supply ∧ (s.leaveLink).channels = s.channels ∧
    (s.leaveLink).capture = s.capture ∧ (s.leaveLink).check = s.check ∧ (s.leaveLink).tx = s.tx ∧
    (s.leaveLink).clock = s.clock ∧ (s.leaveLink).van = s.van ∧ (s.leaveLink).freeUses = s.freeUses := by
  simp only [State.leaveLink]
  repeat' split
  all_goals simp

/-- Only a departure can change. -/
@[simp] theorem State.enterAlign_frame (c : DockCause) :
    (s.enterAlign c).pending = s.pending ∧ (s.enterAlign c).supply = s.supply ∧ (s.enterAlign c).channels = s.channels ∧
    (s.enterAlign c).capture = s.capture ∧ (s.enterAlign c).check = s.check ∧ (s.enterAlign c).tx = s.tx ∧
    (s.enterAlign c).clock = s.clock ∧ (s.enterAlign c).freeUses = s.freeUses := by
  simp only [State.enterAlign]
  all_goals simp

/-- Only a departure can change. -/
@[simp] theorem State.enterFault_frame (c : DockCause) :
    (s.enterFault c).pending = s.pending ∧ (s.enterFault c).supply = s.supply ∧ (s.enterFault c).channels = s.channels ∧
    (s.enterFault c).capture = s.capture ∧ (s.enterFault c).check = s.check ∧ (s.enterFault c).tx = s.tx ∧
    (s.enterFault c).clock = s.clock ∧ (s.enterFault c).freeUses = s.freeUses := by
  simp only [State.enterFault]
  all_goals simp

/-- Only a departure can change. -/
@[simp] theorem State.enterDown_frame (c : DockCause) :
    (s.enterDown c).pending = s.pending ∧ (s.enterDown c).supply = s.supply ∧ (s.enterDown c).channels = s.channels ∧
    (s.enterDown c).capture = s.capture ∧ (s.enterDown c).check = s.check ∧ (s.enterDown c).tx = s.tx ∧
    (s.enterDown c).clock = s.clock ∧ (s.enterDown c).freeUses = s.freeUses := by
  simp only [State.enterDown]
  repeat' split
  all_goals simp

/-- Only a departure can change. -/
@[simp] theorem State.exchangeFailure_frame (c : DockCause) :
    (s.exchangeFailure c).pending = s.pending ∧ (s.exchangeFailure c).supply = s.supply ∧
    (s.exchangeFailure c).channels = s.channels ∧ (s.exchangeFailure c).capture = s.capture ∧
    (s.exchangeFailure c).check = s.check ∧ (s.exchangeFailure c).tx = s.tx ∧ (s.exchangeFailure c).clock = s.clock ∧
    (s.exchangeFailure c).freeUses = s.freeUses := by
  simp only [State.exchangeFailure]
  repeat' split
  all_goals simp

/-- Only the dock link and the notice state can change. -/
@[simp] theorem State.deriveSignal_frame :
    (s.deriveSignal).pending = s.pending ∧ (s.deriveSignal).supply = s.supply ∧ (s.deriveSignal).channels = s.channels ∧
    (s.deriveSignal).capture = s.capture ∧ (s.deriveSignal).route = s.route ∧ (s.deriveSignal).tracker = s.tracker ∧
    (s.deriveSignal).check = s.check ∧ (s.deriveSignal).store = s.store ∧ (s.deriveSignal).tx = s.tx ∧
    (s.deriveSignal).clock = s.clock ∧ (s.deriveSignal).freeUses = s.freeUses := by
  simp only [State.deriveSignal]
  repeat' split
  all_goals simp

/-- Only the dock link can change. -/
@[simp] theorem State.sendBlock_frame :
    (s.sendBlock).pending = s.pending ∧ (s.sendBlock).supply = s.supply ∧ (s.sendBlock).channels = s.channels ∧
    (s.sendBlock).capture = s.capture ∧ (s.sendBlock).route = s.route ∧ (s.sendBlock).tracker = s.tracker ∧
    (s.sendBlock).check = s.check ∧ (s.sendBlock).store = s.store ∧ (s.sendBlock).tx = s.tx ∧ (s.sendBlock).clock = s.clock ∧
    (s.sendBlock).van = s.van ∧ (s.sendBlock).freeUses = s.freeUses := by
  simp only [State.sendBlock]
  all_goals simp

/-- Only the upload states and the dock link can change. -/
@[simp] theorem State.formBlock_frame :
    (s.formBlock).pending = s.pending ∧ (s.formBlock).supply = s.supply ∧ (s.formBlock).channels = s.channels ∧
    (s.formBlock).capture = s.capture ∧ (s.formBlock).route = s.route ∧ (s.formBlock).tracker = s.tracker ∧
    (s.formBlock).check = s.check ∧ (s.formBlock).tx = s.tx ∧ (s.formBlock).clock = s.clock ∧ (s.formBlock).van = s.van ∧
    (s.formBlock).freeUses = s.freeUses := by
  simp only [State.formBlock]
  all_goals simp

/-- Only the upload states and the dock link can change. -/
@[simp] theorem State.uploadStart_frame :
    (s.uploadStart).pending = s.pending ∧ (s.uploadStart).supply = s.supply ∧ (s.uploadStart).channels = s.channels ∧
    (s.uploadStart).capture = s.capture ∧ (s.uploadStart).route = s.route ∧ (s.uploadStart).tracker = s.tracker ∧
    (s.uploadStart).check = s.check ∧ (s.uploadStart).tx = s.tx ∧ (s.uploadStart).clock = s.clock ∧
    (s.uploadStart).van = s.van ∧ (s.uploadStart).freeUses = s.freeUses := by
  simp only [State.uploadStart]
  repeat' split
  all_goals simp

/-- Only the dock link and the notice state can change. -/
@[simp] theorem State.endUpload_frame :
    (s.endUpload).pending = s.pending ∧ (s.endUpload).supply = s.supply ∧ (s.endUpload).channels = s.channels ∧
    (s.endUpload).capture = s.capture ∧ (s.endUpload).route = s.route ∧ (s.endUpload).tracker = s.tracker ∧
    (s.endUpload).check = s.check ∧ (s.endUpload).store = s.store ∧ (s.endUpload).tx = s.tx ∧ (s.endUpload).clock = s.clock ∧
    (s.endUpload).freeUses = s.freeUses := by
  simp only [State.endUpload]
  all_goals simp

/-- Only the dock link can change. -/
@[simp] theorem State.strayAck_frame :
    (s.strayAck).pending = s.pending ∧ (s.strayAck).supply = s.supply ∧ (s.strayAck).channels = s.channels ∧
    (s.strayAck).capture = s.capture ∧ (s.strayAck).route = s.route ∧ (s.strayAck).tracker = s.tracker ∧
    (s.strayAck).check = s.check ∧ (s.strayAck).store = s.store ∧ (s.strayAck).tx = s.tx ∧ (s.strayAck).clock = s.clock ∧
    (s.strayAck).van = s.van ∧ (s.strayAck).freeUses = s.freeUses := by
  simp only [State.strayAck]
  all_goals simp

/-- Only the upload states, the dock link and the notice state can change. -/
@[simp] theorem State.takeAck_frame (n : Byte) :
    (s.takeAck n).pending = s.pending ∧ (s.takeAck n).supply = s.supply ∧ (s.takeAck n).channels = s.channels ∧
    (s.takeAck n).capture = s.capture ∧ (s.takeAck n).route = s.route ∧ (s.takeAck n).tracker = s.tracker ∧
    (s.takeAck n).check = s.check ∧ (s.takeAck n).tx = s.tx ∧ (s.takeAck n).clock = s.clock ∧
    (s.takeAck n).freeUses = s.freeUses := by
  simp only [State.takeAck]
  repeat' split
  all_goals simp

/-- Only the upload states, the dock link and the notice state can change. -/
@[simp] theorem State.takeNak_frame (n why : Byte) :
    (s.takeNak n why).pending = s.pending ∧ (s.takeNak n why).supply = s.supply ∧ (s.takeNak n why).channels = s.channels ∧
    (s.takeNak n why).capture = s.capture ∧ (s.takeNak n why).route = s.route ∧ (s.takeNak n why).tracker = s.tracker ∧
    (s.takeNak n why).check = s.check ∧ (s.takeNak n why).tx = s.tx ∧ (s.takeNak n why).clock = s.clock ∧
    (s.takeNak n why).freeUses = s.freeUses := by
  simp only [State.takeNak]
  repeat' split
  all_goals simp

/-- Only the dock link can change. -/
@[simp] theorem State.judgeAbility_frame (p : AbilityPage) :
    (s.judgeAbility p).pending = s.pending ∧ (s.judgeAbility p).supply = s.supply ∧
    (s.judgeAbility p).channels = s.channels ∧ (s.judgeAbility p).capture = s.capture ∧ (s.judgeAbility p).check = s.check ∧
    (s.judgeAbility p).tx = s.tx ∧ (s.judgeAbility p).clock = s.clock ∧ (s.judgeAbility p).freeUses = s.freeUses := by
  simp only [State.judgeAbility]
  repeat' split
  all_goals simp

/-- Only the dock link can change. -/
@[simp] theorem State.completeExchange_frame (p : DepotPage) :
    (s.completeExchange p).pending = s.pending ∧ (s.completeExchange p).supply = s.supply ∧
    (s.completeExchange p).channels = s.channels ∧ (s.completeExchange p).capture = s.capture ∧
    (s.completeExchange p).route = s.route ∧ (s.completeExchange p).tracker = s.tracker ∧
    (s.completeExchange p).check = s.check ∧ (s.completeExchange p).tx = s.tx ∧ (s.completeExchange p).clock = s.clock ∧
    (s.completeExchange p).freeUses = s.freeUses := by
  simp only [State.completeExchange]
  all_goals simp

/-- Only the dock link can change. -/
@[simp] theorem State.dockArrive_frame (a : DockArrival) :
    (s.dockArrive a).pending = s.pending ∧ (s.dockArrive a).supply = s.supply ∧ (s.dockArrive a).channels = s.channels ∧
    (s.dockArrive a).capture = s.capture ∧ (s.dockArrive a).check = s.check ∧ (s.dockArrive a).tx = s.tx ∧
    (s.dockArrive a).clock = s.clock ∧ (s.dockArrive a).freeUses = s.freeUses := by
  simp only [State.dockArrive]
  repeat' split
  all_goals simp

/-- Only the dock link can change. -/
@[simp] theorem State.enterExchange_frame :
    (s.enterExchange).pending = s.pending ∧ (s.enterExchange).supply = s.supply ∧ (s.enterExchange).channels = s.channels ∧
    (s.enterExchange).capture = s.capture ∧ (s.enterExchange).route = s.route ∧ (s.enterExchange).tracker = s.tracker ∧
    (s.enterExchange).check = s.check ∧ (s.enterExchange).store = s.store ∧ (s.enterExchange).tx = s.tx ∧
    (s.enterExchange).clock = s.clock ∧ (s.enterExchange).freeUses = s.freeUses := by
  simp only [State.enterExchange]
  all_goals simp

end Sys2Proof.Machine
end

