-- ==== Sys2Proof/Laws/FrameStore.lean ====
section
/-! SUPPORT. What the steps of a completion leave unchanged: one lemma for each. -/

namespace Sys2Proof.Machine

variable (s : State)

/-- Only the stop, its segment, the revisit list and the notice state can change. -/
@[simp] theorem State.commitStop_frame (i : Nat) (r : Record) (a u : Bool) :
    (s.commitStop i r a u).pending = s.pending ∧ (s.commitStop i r a u).supply = s.supply ∧
    (s.commitStop i r a u).channels = s.channels ∧ (s.commitStop i r a u).capture = s.capture ∧
    (s.commitStop i r a u).check = s.check ∧ (s.commitStop i r a u).store = s.store ∧ (s.commitStop i r a u).tx = s.tx ∧
    (s.commitStop i r a u).dock = s.dock ∧ (s.commitStop i r a u).clock = s.clock ∧
    (s.commitStop i r a u).freeUses = s.freeUses := by
  simp only [State.commitStop]
  repeat' split
  all_goals simp

/-- Only the notice state can change. -/
@[simp] theorem State.testStoreHigh_frame (n : Nat) :
    (s.testStoreHigh n).pending = s.pending ∧ (s.testStoreHigh n).supply = s.supply ∧
    (s.testStoreHigh n).channels = s.channels ∧ (s.testStoreHigh n).capture = s.capture ∧
    (s.testStoreHigh n).route = s.route ∧ (s.testStoreHigh n).tracker = s.tracker ∧ (s.testStoreHigh n).check = s.check ∧
    (s.testStoreHigh n).store = s.store ∧ (s.testStoreHigh n).tx = s.tx ∧ (s.testStoreHigh n).dock = s.dock ∧
    (s.testStoreHigh n).clock = s.clock ∧ (s.testStoreHigh n).freeUses = s.freeUses := by
  simp only [State.testStoreHigh]
  repeat' split
  all_goals simp

/-- Only the van link can change. -/
@[simp] theorem State.commitReports_frame (i : Nat) (l : ReportLevel) (r : Record) :
    (s.commitReports i l r).pending = s.pending ∧ (s.commitReports i l r).supply = s.supply ∧
    (s.commitReports i l r).channels = s.channels ∧ (s.commitReports i l r).capture = s.capture ∧
    (s.commitReports i l r).route = s.route ∧ (s.commitReports i l r).tracker = s.tracker ∧
    (s.commitReports i l r).check = s.check ∧ (s.commitReports i l r).store = s.store ∧ (s.commitReports i l r).tx = s.tx ∧
    (s.commitReports i l r).dock = s.dock ∧ (s.commitReports i l r).clock = s.clock ∧
    (s.commitReports i l r).freeUses = s.freeUses := by
  simp only [State.commitReports]
  repeat' split
  all_goals simp

/-- Only the poll queue can change. -/
@[simp] theorem State.offerRecheck_frame (i : Nat) :
    (s.offerRecheck i).pending = s.pending ∧ (s.offerRecheck i).supply = s.supply ∧
    (s.offerRecheck i).channels = s.channels ∧ (s.offerRecheck i).capture = s.capture ∧ (s.offerRecheck i).route = s.route ∧
    (s.offerRecheck i).tracker = s.tracker ∧ (s.offerRecheck i).check = s.check ∧ (s.offerRecheck i).store = s.store ∧
    (s.offerRecheck i).dock = s.dock ∧ (s.offerRecheck i).clock = s.clock ∧ (s.offerRecheck i).van = s.van ∧
    (s.offerRecheck i).freeUses = s.freeUses := by
  simp only [State.offerRecheck]
  repeat' split
  all_goals simp

/-- Only the store, the tracker and the blocks that a commit tells can change. -/
@[simp] theorem State.commitReading_frame (c : Check) (f : Finding) (d : Disposition) :
    (s.commitReading c f d).pending = s.pending ∧ (s.commitReading c f d).supply = s.supply ∧
    (s.commitReading c f d).channels = s.channels ∧ (s.commitReading c f d).capture = s.capture ∧
    (s.commitReading c f d).check = s.check ∧ (s.commitReading c f d).clock = s.clock ∧
    (s.commitReading c f d).freeUses = s.freeUses := by
  simp only [State.commitReading]
  all_goals simp

/-- Only the tracker, the counters and the blocks that a discard tells can change. -/
@[simp] theorem State.discardReading_frame (c : Check) (f : Finding) (w : StoreCause) :
    (s.discardReading c f w).pending = s.pending ∧ (s.discardReading c f w).supply = s.supply ∧
    (s.discardReading c f w).channels = s.channels ∧ (s.discardReading c f w).capture = s.capture ∧
    (s.discardReading c f w).check = s.check ∧ (s.discardReading c f w).dock = s.dock ∧
    (s.discardReading c f w).clock = s.clock ∧ (s.discardReading c f w).freeUses = s.freeUses := by
  simp only [State.discardReading]
  all_goals simp

/-- Only the engine and the blocks that a completion tells can change. -/
@[simp] theorem State.completeCheck_frame (c : Check) :
    (s.completeCheck c).pending = s.pending ∧ (s.completeCheck c).supply = s.supply ∧
    (s.completeCheck c).channels = s.channels ∧ (s.completeCheck c).capture = s.capture ∧
    (s.completeCheck c).clock = s.clock ∧ (s.completeCheck c).freeUses = s.freeUses := by
  simp only [State.completeCheck]
  repeat' split
  all_goals simp

end Sys2Proof.Machine
end

