-- ==== Sys2Proof/Laws/FrameCommand.lean ====
section
/-! SUPPORT. What the commands and the operations under them leave unchanged: one lemma for each. -/

namespace Sys2Proof.Machine

variable (s : State)

/-- Only the segment, the open order and the poll queue can change. -/
@[simp] theorem State.openSegment_frame (n : Nat) :
    (s.openSegment n).pending = s.pending ∧ (s.openSegment n).supply = s.supply ∧ (s.openSegment n).channels = s.channels ∧
    (s.openSegment n).capture = s.capture ∧ (s.openSegment n).check = s.check ∧ (s.openSegment n).store = s.store ∧
    (s.openSegment n).dock = s.dock ∧ (s.openSegment n).clock = s.clock ∧ (s.openSegment n).van = s.van ∧
    (s.openSegment n).freeUses = s.freeUses := by
  simp only [State.openSegment]
  all_goals simp

/-- Only what the close rule and a notice change can change. -/
@[simp] theorem State.dwellExpiry_frame (n : Nat) (m : DwellMode) :
    (s.dwellExpiry n m).pending = s.pending ∧ (s.dwellExpiry n m).supply = s.supply ∧
    (s.dwellExpiry n m).channels = s.channels ∧ (s.dwellExpiry n m).check = s.check ∧ (s.dwellExpiry n m).store = s.store ∧
    (s.dwellExpiry n m).dock = s.dock ∧ (s.dwellExpiry n m).clock = s.clock ∧ (s.dwellExpiry n m).freeUses = s.freeUses := by
  simp only [State.dwellExpiry]
  repeat' split
  all_goals simp

/-- Only the stop, the revisit list, the transmitter and the notice state can change. -/
@[simp] theorem State.skipStop_frame (i : Nat) (p : Stop) :
    (s.skipStop i p).pending = s.pending ∧ (s.skipStop i p).supply = s.supply ∧ (s.skipStop i p).channels = s.channels ∧
    (s.skipStop i p).capture = s.capture ∧ (s.skipStop i p).check = s.check ∧ (s.skipStop i p).store = s.store ∧
    (s.skipStop i p).dock = s.dock ∧ (s.skipStop i p).clock = s.clock ∧ (s.skipStop i p).freeUses = s.freeUses := by
  simp only [State.skipStop]
  repeat' split
  all_goals simp

/-- Only the stop, the revisit list and the poll queue can change. -/
@[simp] theorem State.unskipStop_frame (i : Nat) (p : Stop) :
    (s.unskipStop i p).pending = s.pending ∧ (s.unskipStop i p).supply = s.supply ∧
    (s.unskipStop i p).channels = s.channels ∧ (s.unskipStop i p).capture = s.capture ∧ (s.unskipStop i p).check = s.check ∧
    (s.unskipStop i p).store = s.store ∧ (s.unskipStop i p).dock = s.dock ∧ (s.unskipStop i p).clock = s.clock ∧
    (s.unskipStop i p).van = s.van ∧ (s.unskipStop i p).freeUses = s.freeUses := by
  simp only [State.unskipStop]
  repeat' split
  all_goals simp

/-- Only the route book and the tracker can change. -/
@[simp] theorem State.beginLoad_frame (l : Link) (b : LoadBeginBody) :
    (s.beginLoad l b).pending = s.pending ∧ (s.beginLoad l b).supply = s.supply ∧ (s.beginLoad l b).channels = s.channels ∧
    (s.beginLoad l b).capture = s.capture ∧ (s.beginLoad l b).check = s.check ∧ (s.beginLoad l b).store = s.store ∧
    (s.beginLoad l b).tx = s.tx ∧ (s.beginLoad l b).dock = s.dock ∧ (s.beginLoad l b).clock = s.clock ∧
    (s.beginLoad l b).van = s.van ∧ (s.beginLoad l b).freeUses = s.freeUses := by
  simp only [State.beginLoad]
  all_goals simp

/-- Only the route book, the foreign list and the notice state can change. -/
@[simp] theorem State.activateRoute_frame :
    (s.activateRoute).pending = s.pending ∧ (s.activateRoute).supply = s.supply ∧ (s.activateRoute).channels = s.channels ∧
    (s.activateRoute).tracker = s.tracker ∧ (s.activateRoute).check = s.check ∧ (s.activateRoute).store = s.store ∧
    (s.activateRoute).tx = s.tx ∧ (s.activateRoute).dock = s.dock ∧ (s.activateRoute).clock = s.clock ∧
    (s.activateRoute).freeUses = s.freeUses := by
  simp only [State.activateRoute]
  all_goals simp

/-- Only the route parameters and the transmitter can change. -/
@[simp] theorem State.setParams_frame (q : Params) :
    (s.setParams q).pending = s.pending ∧ (s.setParams q).supply = s.supply ∧ (s.setParams q).channels = s.channels ∧
    (s.setParams q).capture = s.capture ∧ (s.setParams q).tracker = s.tracker ∧ (s.setParams q).check = s.check ∧
    (s.setParams q).store = s.store ∧ (s.setParams q).dock = s.dock ∧ (s.setParams q).clock = s.clock ∧
    (s.setParams q).van = s.van ∧ (s.setParams q).freeUses = s.freeUses := by
  simp only [State.setParams]
  repeat' split
  all_goals simp

/-- Only the transmitter can change. -/
@[simp] theorem State.inhibitTx_frame :
    (s.inhibitTx).pending = s.pending ∧ (s.inhibitTx).supply = s.supply ∧ (s.inhibitTx).channels = s.channels ∧
    (s.inhibitTx).capture = s.capture ∧ (s.inhibitTx).route = s.route ∧ (s.inhibitTx).tracker = s.tracker ∧
    (s.inhibitTx).check = s.check ∧ (s.inhibitTx).store = s.store ∧ (s.inhibitTx).dock = s.dock ∧
    (s.inhibitTx).clock = s.clock ∧ (s.inhibitTx).van = s.van ∧ (s.inhibitTx).freeUses = s.freeUses := by
  simp only [State.inhibitTx]
  repeat' split
  all_goals simp

/-- Only the transmitter and CH0 can change. -/
@[simp] theorem State.key_frame (p : PollEntry) :
    (s.key p).pending = s.pending ∧ (s.key p).supply = s.supply ∧ (s.key p).capture = s.capture ∧ (s.key p).route = s.route ∧
    (s.key p).tracker = s.tracker ∧ (s.key p).check = s.check ∧ (s.key p).store = s.store ∧ (s.key p).dock = s.dock ∧
    (s.key p).clock = s.clock ∧ (s.key p).van = s.van ∧ (s.key p).freeUses = s.freeUses := by
  simp only [State.key]
  all_goals simp

/-- Only the stop's attempts, the transmitter and the notice state can change. -/
@[simp] theorem State.expirePoll_frame (e : PollEntry) (c : Bool) :
    (s.expirePoll e c).pending = s.pending ∧ (s.expirePoll e c).supply = s.supply ∧
    (s.expirePoll e c).channels = s.channels ∧ (s.expirePoll e c).capture = s.capture ∧
    (s.expirePoll e c).tracker = s.tracker ∧ (s.expirePoll e c).check = s.check ∧ (s.expirePoll e c).store = s.store ∧
    (s.expirePoll e c).dock = s.dock ∧ (s.expirePoll e c).clock = s.clock ∧ (s.expirePoll e c).freeUses = s.freeUses := by
  simp only [State.expirePoll]
  repeat' split
  all_goals simp

/-- Only the clock and the notice state can change. -/
@[simp] theorem State.setClockState_frame (c : ClockState) (w : ClockCause) :
    (s.setClockState c w).pending = s.pending ∧ (s.setClockState c w).supply = s.supply ∧
    (s.setClockState c w).channels = s.channels ∧ (s.setClockState c w).capture = s.capture ∧
    (s.setClockState c w).route = s.route ∧ (s.setClockState c w).tracker = s.tracker ∧
    (s.setClockState c w).check = s.check ∧ (s.setClockState c w).store = s.store ∧ (s.setClockState c w).tx = s.tx ∧
    (s.setClockState c w).dock = s.dock ∧ (s.setClockState c w).freeUses = s.freeUses := by
  simp only [State.setClockState]
  repeat' split
  all_goals simp

/-- Only the channel and the notice state can change. -/
@[simp] theorem State.disableChannel_frame (ch : ChannelNo) (e : PlanEntry) :
    (s.disableChannel ch e).pending = s.pending ∧ (s.disableChannel ch e).supply = s.supply ∧
    (s.disableChannel ch e).capture = s.capture ∧ (s.disableChannel ch e).route = s.route ∧
    (s.disableChannel ch e).tracker = s.tracker ∧ (s.disableChannel ch e).check = s.check ∧
    (s.disableChannel ch e).store = s.store ∧ (s.disableChannel ch e).tx = s.tx ∧ (s.disableChannel ch e).dock = s.dock ∧
    (s.disableChannel ch e).clock = s.clock ∧ (s.disableChannel ch e).freeUses = s.freeUses := by
  simp only [State.disableChannel]
  all_goals simp

/-- Only the channel and the notice state can change. -/
@[simp] theorem State.enableChannel_frame (ch : ChannelNo) (e : PlanEntry) :
    (s.enableChannel ch e).pending = s.pending ∧ (s.enableChannel ch e).supply = s.supply ∧
    (s.enableChannel ch e).capture = s.capture ∧ (s.enableChannel ch e).route = s.route ∧
    (s.enableChannel ch e).tracker = s.tracker ∧ (s.enableChannel ch e).check = s.check ∧
    (s.enableChannel ch e).store = s.store ∧ (s.enableChannel ch e).tx = s.tx ∧ (s.enableChannel ch e).dock = s.dock ∧
    (s.enableChannel ch e).clock = s.clock ∧ (s.enableChannel ch e).freeUses = s.freeUses := by
  simp only [State.enableChannel]
  repeat' split
  all_goals simp

/-- Only the blocks it names can change. -/
@[simp] theorem actSetChannel_frame (b : SetChannelBody) :
    (actSetChannel b s).1.pending = s.pending ∧ (actSetChannel b s).1.supply = s.supply ∧
    (actSetChannel b s).1.capture = s.capture ∧ (actSetChannel b s).1.route = s.route ∧
    (actSetChannel b s).1.tracker = s.tracker ∧ (actSetChannel b s).1.check = s.check ∧
    (actSetChannel b s).1.store = s.store ∧ (actSetChannel b s).1.dock = s.dock ∧
    (actSetChannel b s).1.clock = s.clock ∧ (actSetChannel b s).1.freeUses = s.freeUses := by
  simp only [actSetChannel]
  repeat' split
  all_goals simp [refuse]

/-- Nothing changes. -/
@[simp] theorem actReadForeign_frame (f c : Byte) :
    (actReadForeign f c s).1.pending = s.pending ∧ (actReadForeign f c s).1.supply = s.supply ∧
    (actReadForeign f c s).1.channels = s.channels ∧ (actReadForeign f c s).1.capture = s.capture ∧
    (actReadForeign f c s).1.route = s.route ∧ (actReadForeign f c s).1.tracker = s.tracker ∧
    (actReadForeign f c s).1.check = s.check ∧ (actReadForeign f c s).1.store = s.store ∧
    (actReadForeign f c s).1.tx = s.tx ∧ (actReadForeign f c s).1.dock = s.dock ∧
    (actReadForeign f c s).1.clock = s.clock ∧ (actReadForeign f c s).1.van = s.van ∧
    (actReadForeign f c s).1.freeUses = s.freeUses := by
  simp only [actReadForeign]
  repeat' split
  all_goals simp [refuse]

/-- Only the blocks it names can change. -/
@[simp] theorem actSetDisposition_frame (l : Link) (b : SetDispositionBody) :
    (actSetDisposition l b s).1.pending = s.pending ∧ (actSetDisposition l b s).1.supply = s.supply ∧
    (actSetDisposition l b s).1.channels = s.channels ∧ (actSetDisposition l b s).1.capture = s.capture ∧
    (actSetDisposition l b s).1.tracker = s.tracker ∧ (actSetDisposition l b s).1.check = s.check ∧
    (actSetDisposition l b s).1.store = s.store ∧ (actSetDisposition l b s).1.tx = s.tx ∧
    (actSetDisposition l b s).1.dock = s.dock ∧ (actSetDisposition l b s).1.clock = s.clock ∧
    (actSetDisposition l b s).1.van = s.van ∧ (actSetDisposition l b s).1.freeUses = s.freeUses := by
  simp only [actSetDisposition]
  repeat' split
  all_goals simp [refuse]

/-- Nothing changes. -/
@[simp] theorem actReadRecords_frame (a : Word32) (c : Byte) :
    (actReadRecords a c s).1.pending = s.pending ∧ (actReadRecords a c s).1.supply = s.supply ∧
    (actReadRecords a c s).1.channels = s.channels ∧ (actReadRecords a c s).1.capture = s.capture ∧
    (actReadRecords a c s).1.route = s.route ∧ (actReadRecords a c s).1.tracker = s.tracker ∧
    (actReadRecords a c s).1.check = s.check ∧ (actReadRecords a c s).1.store = s.store ∧
    (actReadRecords a c s).1.tx = s.tx ∧ (actReadRecords a c s).1.dock = s.dock ∧
    (actReadRecords a c s).1.clock = s.clock ∧ (actReadRecords a c s).1.van = s.van ∧
    (actReadRecords a c s).1.freeUses = s.freeUses := by
  simp only [actReadRecords]
  repeat' split
  all_goals simp [refuse]

/-- Only the blocks it names can change. -/
@[simp] theorem actLoadBegin_frame (l : Link) (b : LoadBeginBody) :
    (actLoadBegin l b s).1.pending = s.pending ∧ (actLoadBegin l b s).1.supply = s.supply ∧
    (actLoadBegin l b s).1.channels = s.channels ∧ (actLoadBegin l b s).1.capture = s.capture ∧
    (actLoadBegin l b s).1.check = s.check ∧ (actLoadBegin l b s).1.store = s.store ∧
    (actLoadBegin l b s).1.tx = s.tx ∧ (actLoadBegin l b s).1.dock = s.dock ∧ (actLoadBegin l b s).1.clock = s.clock ∧
    (actLoadBegin l b s).1.van = s.van ∧ (actLoadBegin l b s).1.freeUses = s.freeUses := by
  simp only [actLoadBegin]
  repeat' split
  all_goals simp [refuse]

/-- Only the blocks it names can change. -/
@[simp] theorem actLoadSegment_frame (l : Link) (b : LoadSegmentBody) :
    (actLoadSegment l b s).1.pending = s.pending ∧ (actLoadSegment l b s).1.supply = s.supply ∧
    (actLoadSegment l b s).1.channels = s.channels ∧ (actLoadSegment l b s).1.capture = s.capture ∧
    (actLoadSegment l b s).1.tracker = s.tracker ∧ (actLoadSegment l b s).1.check = s.check ∧
    (actLoadSegment l b s).1.store = s.store ∧ (actLoadSegment l b s).1.tx = s.tx ∧
    (actLoadSegment l b s).1.dock = s.dock ∧ (actLoadSegment l b s).1.clock = s.clock ∧
    (actLoadSegment l b s).1.van = s.van ∧ (actLoadSegment l b s).1.freeUses = s.freeUses := by
  simp only [actLoadSegment]
  repeat' split
  all_goals simp [refuse]

/-- Only the blocks it names can change. -/
@[simp] theorem actLoadEnd_frame (l : Link) :
    (actLoadEnd l s).1.pending = s.pending ∧ (actLoadEnd l s).1.supply = s.supply ∧
    (actLoadEnd l s).1.channels = s.channels ∧ (actLoadEnd l s).1.capture = s.capture ∧
    (actLoadEnd l s).1.tracker = s.tracker ∧ (actLoadEnd l s).1.check = s.check ∧ (actLoadEnd l s).1.store = s.store ∧
    (actLoadEnd l s).1.tx = s.tx ∧ (actLoadEnd l s).1.dock = s.dock ∧ (actLoadEnd l s).1.clock = s.clock ∧
    (actLoadEnd l s).1.van = s.van ∧ (actLoadEnd l s).1.freeUses = s.freeUses := by
  simp only [actLoadEnd]
  repeat' split
  all_goals simp [refuse]

/-- Only the blocks it names can change. -/
@[simp] theorem actLoadAbort_frame (l : Link) :
    (actLoadAbort l s).1.pending = s.pending ∧ (actLoadAbort l s).1.supply = s.supply ∧
    (actLoadAbort l s).1.channels = s.channels ∧ (actLoadAbort l s).1.capture = s.capture ∧
    (actLoadAbort l s).1.check = s.check ∧ (actLoadAbort l s).1.store = s.store ∧ (actLoadAbort l s).1.tx = s.tx ∧
    (actLoadAbort l s).1.dock = s.dock ∧ (actLoadAbort l s).1.clock = s.clock ∧ (actLoadAbort l s).1.van = s.van ∧
    (actLoadAbort l s).1.freeUses = s.freeUses := by
  simp only [actLoadAbort]
  repeat' split
  all_goals simp [refuse]

/-- Only the blocks it names can change. -/
@[simp] theorem actClearRoute_frame :
    (actClearRoute s).1.pending = s.pending ∧ (actClearRoute s).1.supply = s.supply ∧
    (actClearRoute s).1.channels = s.channels ∧ (actClearRoute s).1.capture = s.capture ∧
    (actClearRoute s).1.check = s.check ∧ (actClearRoute s).1.store = s.store ∧ (actClearRoute s).1.tx = s.tx ∧
    (actClearRoute s).1.dock = s.dock ∧ (actClearRoute s).1.clock = s.clock ∧ (actClearRoute s).1.van = s.van ∧
    (actClearRoute s).1.freeUses = s.freeUses := by
  simp only [actClearRoute]
  repeat' split
  all_goals simp [refuse]

/-- Nothing changes. -/
@[simp] theorem actReadStop_frame (f : Byte) (k : Word32) :
    (actReadStop f k s).1.pending = s.pending ∧ (actReadStop f k s).1.supply = s.supply ∧
    (actReadStop f k s).1.channels = s.channels ∧ (actReadStop f k s).1.capture = s.capture ∧
    (actReadStop f k s).1.route = s.route ∧ (actReadStop f k s).1.tracker = s.tracker ∧
    (actReadStop f k s).1.check = s.check ∧ (actReadStop f k s).1.store = s.store ∧ (actReadStop f k s).1.tx = s.tx ∧
    (actReadStop f k s).1.dock = s.dock ∧ (actReadStop f k s).1.clock = s.clock ∧ (actReadStop f k s).1.van = s.van ∧
    (actReadStop f k s).1.freeUses = s.freeUses := by
  simp only [actReadStop]
  repeat' split
  all_goals simp [refuse]

/-- Only the blocks it names can change. -/
@[simp] theorem actSetProfile_frame (l : Link) (b : SetProfileBody) :
    (actSetProfile l b s).1.pending = s.pending ∧ (actSetProfile l b s).1.supply = s.supply ∧
    (actSetProfile l b s).1.channels = s.channels ∧ (actSetProfile l b s).1.capture = s.capture ∧
    (actSetProfile l b s).1.tracker = s.tracker ∧ (actSetProfile l b s).1.check = s.check ∧
    (actSetProfile l b s).1.store = s.store ∧ (actSetProfile l b s).1.tx = s.tx ∧
    (actSetProfile l b s).1.dock = s.dock ∧ (actSetProfile l b s).1.clock = s.clock ∧
    (actSetProfile l b s).1.van = s.van ∧ (actSetProfile l b s).1.freeUses = s.freeUses := by
  simp only [actSetProfile]
  repeat' split
  all_goals simp [refuse]

/-- Only the blocks it names can change. -/
@[simp] theorem actSetRouteParams_frame (l : Link) (b : SetRouteParamsBody) :
    (actSetRouteParams l b s).1.pending = s.pending ∧ (actSetRouteParams l b s).1.supply = s.supply ∧
    (actSetRouteParams l b s).1.channels = s.channels ∧ (actSetRouteParams l b s).1.capture = s.capture ∧
    (actSetRouteParams l b s).1.tracker = s.tracker ∧ (actSetRouteParams l b s).1.check = s.check ∧
    (actSetRouteParams l b s).1.store = s.store ∧ (actSetRouteParams l b s).1.dock = s.dock ∧
    (actSetRouteParams l b s).1.clock = s.clock ∧ (actSetRouteParams l b s).1.van = s.van ∧
    (actSetRouteParams l b s).1.freeUses = s.freeUses := by
  simp only [actSetRouteParams]
  repeat' split
  all_goals simp [refuse]

/-- Only the blocks it names can change. -/
@[simp] theorem actOpenSegment_frame (g : Byte) :
    (actOpenSegment g s).1.pending = s.pending ∧ (actOpenSegment g s).1.supply = s.supply ∧
    (actOpenSegment g s).1.channels = s.channels ∧ (actOpenSegment g s).1.capture = s.capture ∧
    (actOpenSegment g s).1.check = s.check ∧ (actOpenSegment g s).1.store = s.store ∧
    (actOpenSegment g s).1.dock = s.dock ∧ (actOpenSegment g s).1.clock = s.clock ∧
    (actOpenSegment g s).1.van = s.van ∧ (actOpenSegment g s).1.freeUses = s.freeUses := by
  simp only [actOpenSegment]
  repeat' split
  all_goals simp [refuse]

/-- Only the blocks it names can change. -/
@[simp] theorem actCloseSegment_frame (g : Byte) :
    (actCloseSegment g s).1.pending = s.pending ∧ (actCloseSegment g s).1.supply = s.supply ∧
    (actCloseSegment g s).1.channels = s.channels ∧ (actCloseSegment g s).1.check = s.check ∧
    (actCloseSegment g s).1.store = s.store ∧ (actCloseSegment g s).1.dock = s.dock ∧
    (actCloseSegment g s).1.clock = s.clock ∧ (actCloseSegment g s).1.freeUses = s.freeUses := by
  simp only [actCloseSegment]
  repeat' split
  all_goals simp [refuse]

/-- Only the blocks it names can change. -/
@[simp] theorem actSkipStop_frame (i : Word16) :
    (actSkipStop i s).1.pending = s.pending ∧ (actSkipStop i s).1.supply = s.supply ∧
    (actSkipStop i s).1.channels = s.channels ∧ (actSkipStop i s).1.capture = s.capture ∧
    (actSkipStop i s).1.check = s.check ∧ (actSkipStop i s).1.store = s.store ∧ (actSkipStop i s).1.dock = s.dock ∧
    (actSkipStop i s).1.clock = s.clock ∧ (actSkipStop i s).1.freeUses = s.freeUses := by
  simp only [actSkipStop]
  repeat' split
  all_goals simp [refuse]

/-- Only the blocks it names can change. -/
@[simp] theorem actUnskipStop_frame (i : Word16) :
    (actUnskipStop i s).1.pending = s.pending ∧ (actUnskipStop i s).1.supply = s.supply ∧
    (actUnskipStop i s).1.channels = s.channels ∧ (actUnskipStop i s).1.capture = s.capture ∧
    (actUnskipStop i s).1.check = s.check ∧ (actUnskipStop i s).1.store = s.store ∧
    (actUnskipStop i s).1.dock = s.dock ∧ (actUnskipStop i s).1.clock = s.clock ∧ (actUnskipStop i s).1.van = s.van ∧
    (actUnskipStop i s).1.freeUses = s.freeUses := by
  simp only [actUnskipStop]
  repeat' split
  all_goals simp [refuse]

/-- Nothing changes. -/
@[simp] theorem actReadRevisit_frame (f : Word16) (c : Byte) :
    (actReadRevisit f c s).1.pending = s.pending ∧ (actReadRevisit f c s).1.supply = s.supply ∧
    (actReadRevisit f c s).1.channels = s.channels ∧ (actReadRevisit f c s).1.capture = s.capture ∧
    (actReadRevisit f c s).1.route = s.route ∧ (actReadRevisit f c s).1.tracker = s.tracker ∧
    (actReadRevisit f c s).1.check = s.check ∧ (actReadRevisit f c s).1.store = s.store ∧
    (actReadRevisit f c s).1.tx = s.tx ∧ (actReadRevisit f c s).1.dock = s.dock ∧
    (actReadRevisit f c s).1.clock = s.clock ∧ (actReadRevisit f c s).1.van = s.van ∧
    (actReadRevisit f c s).1.freeUses = s.freeUses := by
  simp only [actReadRevisit]
  repeat' split
  all_goals simp [refuse]

/-- Nothing changes. -/
@[simp] theorem actReadSegment_frame (g : Byte) :
    (actReadSegment g s).1.pending = s.pending ∧ (actReadSegment g s).1.supply = s.supply ∧
    (actReadSegment g s).1.channels = s.channels ∧ (actReadSegment g s).1.capture = s.capture ∧
    (actReadSegment g s).1.route = s.route ∧ (actReadSegment g s).1.tracker = s.tracker ∧
    (actReadSegment g s).1.check = s.check ∧ (actReadSegment g s).1.store = s.store ∧
    (actReadSegment g s).1.tx = s.tx ∧ (actReadSegment g s).1.dock = s.dock ∧ (actReadSegment g s).1.clock = s.clock ∧
    (actReadSegment g s).1.van = s.van ∧ (actReadSegment g s).1.freeUses = s.freeUses := by
  simp only [actReadSegment]
  repeat' split
  all_goals simp [refuse]

/-- Only the blocks it names can change. -/
@[simp] theorem actPollStop_frame (i : Word16) :
    (actPollStop i s).1.pending = s.pending ∧ (actPollStop i s).1.supply = s.supply ∧
    (actPollStop i s).1.channels = s.channels ∧ (actPollStop i s).1.capture = s.capture ∧
    (actPollStop i s).1.route = s.route ∧ (actPollStop i s).1.tracker = s.tracker ∧
    (actPollStop i s).1.check = s.check ∧ (actPollStop i s).1.store = s.store ∧ (actPollStop i s).1.dock = s.dock ∧
    (actPollStop i s).1.clock = s.clock ∧ (actPollStop i s).1.van = s.van := by
  simp only [actPollStop]
  repeat' split
  all_goals simp [refuse, refuseFree]

/-- Only the blocks it names can change. -/
@[simp] theorem actPollCancel_frame (i : Word16) :
    (actPollCancel i s).1.pending = s.pending ∧ (actPollCancel i s).1.supply = s.supply ∧
    (actPollCancel i s).1.channels = s.channels ∧ (actPollCancel i s).1.capture = s.capture ∧
    (actPollCancel i s).1.tracker = s.tracker ∧ (actPollCancel i s).1.check = s.check ∧
    (actPollCancel i s).1.store = s.store ∧ (actPollCancel i s).1.dock = s.dock ∧
    (actPollCancel i s).1.clock = s.clock ∧ (actPollCancel i s).1.van = s.van ∧
    (actPollCancel i s).1.freeUses = s.freeUses := by
  simp only [actPollCancel]
  repeat' split
  all_goals simp [refuse]

/-- Only the blocks it names can change. -/
@[simp] theorem actTxInhibit_frame :
    (actTxInhibit s).1.pending = s.pending ∧ (actTxInhibit s).1.supply = s.supply ∧
    (actTxInhibit s).1.channels = s.channels ∧ (actTxInhibit s).1.capture = s.capture ∧
    (actTxInhibit s).1.route = s.route ∧ (actTxInhibit s).1.tracker = s.tracker ∧ (actTxInhibit s).1.check = s.check ∧
    (actTxInhibit s).1.store = s.store ∧ (actTxInhibit s).1.dock = s.dock ∧ (actTxInhibit s).1.clock = s.clock ∧
    (actTxInhibit s).1.van = s.van ∧ (actTxInhibit s).1.freeUses = s.freeUses := by
  simp only [actTxInhibit]
  repeat' split
  all_goals simp

/-- Only the blocks it names can change. -/
@[simp] theorem actTxEnable_frame :
    (actTxEnable s).1.pending = s.pending ∧ (actTxEnable s).1.supply = s.supply ∧
    (actTxEnable s).1.channels = s.channels ∧ (actTxEnable s).1.capture = s.capture ∧
    (actTxEnable s).1.route = s.route ∧ (actTxEnable s).1.tracker = s.tracker ∧ (actTxEnable s).1.check = s.check ∧
    (actTxEnable s).1.store = s.store ∧ (actTxEnable s).1.dock = s.dock ∧ (actTxEnable s).1.clock = s.clock ∧
    (actTxEnable s).1.van = s.van ∧ (actTxEnable s).1.freeUses = s.freeUses := by
  simp only [actTxEnable]
  all_goals simp

/-- Only the blocks it names can change. -/
@[simp] theorem actSetClock_frame (d : Word16) (x : Word24) :
    (actSetClock d x s).1.pending = s.pending ∧ (actSetClock d x s).1.supply = s.supply ∧
    (actSetClock d x s).1.channels = s.channels ∧ (actSetClock d x s).1.capture = s.capture ∧
    (actSetClock d x s).1.route = s.route ∧ (actSetClock d x s).1.tracker = s.tracker ∧
    (actSetClock d x s).1.check = s.check ∧ (actSetClock d x s).1.store = s.store ∧ (actSetClock d x s).1.tx = s.tx ∧
    (actSetClock d x s).1.dock = s.dock ∧ (actSetClock d x s).1.freeUses = s.freeUses := by
  simp only [actSetClock]
  repeat' split
  all_goals simp [refuse]

/-- Only the blocks it names can change. -/
@[simp] theorem actClockSource_frame (b : Byte) :
    (actClockSource b s).1.pending = s.pending ∧ (actClockSource b s).1.supply = s.supply ∧
    (actClockSource b s).1.channels = s.channels ∧ (actClockSource b s).1.capture = s.capture ∧
    (actClockSource b s).1.route = s.route ∧ (actClockSource b s).1.tracker = s.tracker ∧
    (actClockSource b s).1.check = s.check ∧ (actClockSource b s).1.store = s.store ∧
    (actClockSource b s).1.tx = s.tx ∧ (actClockSource b s).1.dock = s.dock ∧
    (actClockSource b s).1.freeUses = s.freeUses := by
  simp only [actClockSource]
  repeat' split
  all_goals simp [refuse]

/-- Only the blocks it names can change. -/
@[simp] theorem actDockReset_frame :
    (actDockReset s).1.pending = s.pending ∧ (actDockReset s).1.supply = s.supply ∧
    (actDockReset s).1.channels = s.channels ∧ (actDockReset s).1.capture = s.capture ∧
    (actDockReset s).1.check = s.check ∧ (actDockReset s).1.tx = s.tx ∧ (actDockReset s).1.clock = s.clock ∧
    (actDockReset s).1.freeUses = s.freeUses := by
  simp only [actDockReset]
  all_goals simp

/-- Only the blocks it names can change. -/
@[simp] theorem actSetDock_frame (b : SetDockBody) :
    (actSetDock b s).1.pending = s.pending ∧ (actSetDock b s).1.supply = s.supply ∧
    (actSetDock b s).1.channels = s.channels ∧ (actSetDock b s).1.capture = s.capture ∧
    (actSetDock b s).1.route = s.route ∧ (actSetDock b s).1.tracker = s.tracker ∧ (actSetDock b s).1.check = s.check ∧
    (actSetDock b s).1.store = s.store ∧ (actSetDock b s).1.tx = s.tx ∧ (actSetDock b s).1.clock = s.clock ∧
    (actSetDock b s).1.freeUses = s.freeUses := by
  simp only [actSetDock]
  repeat' split
  all_goals simp [refuse]

/-- Nothing changes. -/
@[simp] theorem actReadStatus_frame (b : Byte) :
    (actReadStatus b s).1.pending = s.pending ∧ (actReadStatus b s).1.supply = s.supply ∧
    (actReadStatus b s).1.channels = s.channels ∧ (actReadStatus b s).1.capture = s.capture ∧
    (actReadStatus b s).1.route = s.route ∧ (actReadStatus b s).1.tracker = s.tracker ∧
    (actReadStatus b s).1.check = s.check ∧ (actReadStatus b s).1.store = s.store ∧ (actReadStatus b s).1.tx = s.tx ∧
    (actReadStatus b s).1.dock = s.dock ∧ (actReadStatus b s).1.clock = s.clock ∧ (actReadStatus b s).1.van = s.van ∧
    (actReadStatus b s).1.freeUses = s.freeUses := by
  simp only [actReadStatus]
  repeat' split
  all_goals simp [refuse]

/-- Nothing changes. -/
@[simp] theorem actReadCounters_frame (b : Byte) :
    (actReadCounters b s).1.pending = s.pending ∧ (actReadCounters b s).1.supply = s.supply ∧
    (actReadCounters b s).1.channels = s.channels ∧ (actReadCounters b s).1.capture = s.capture ∧
    (actReadCounters b s).1.route = s.route ∧ (actReadCounters b s).1.tracker = s.tracker ∧
    (actReadCounters b s).1.check = s.check ∧ (actReadCounters b s).1.store = s.store ∧
    (actReadCounters b s).1.tx = s.tx ∧ (actReadCounters b s).1.dock = s.dock ∧
    (actReadCounters b s).1.clock = s.clock ∧ (actReadCounters b s).1.van = s.van ∧
    (actReadCounters b s).1.freeUses = s.freeUses := by
  simp only [actReadCounters]
  repeat' split
  all_goals simp [refuse]

/-- Only the blocks it names can change. -/
@[simp] theorem actClearCounters_frame (b : Byte) :
    (actClearCounters b s).1.pending = s.pending ∧ (actClearCounters b s).1.supply = s.supply ∧
    (actClearCounters b s).1.route = s.route ∧ (actClearCounters b s).1.tracker = s.tracker ∧
    (actClearCounters b s).1.check = s.check ∧ (actClearCounters b s).1.clock = s.clock ∧
    (actClearCounters b s).1.freeUses = s.freeUses := by
  simp only [actClearCounters]
  repeat' split
  all_goals simp [refuse]

/-- Only the blocks it names can change. -/
@[simp] theorem actSetAttnMode_frame (b : Byte) :
    (actSetAttnMode b s).1.pending = s.pending ∧ (actSetAttnMode b s).1.supply = s.supply ∧
    (actSetAttnMode b s).1.channels = s.channels ∧ (actSetAttnMode b s).1.capture = s.capture ∧
    (actSetAttnMode b s).1.route = s.route ∧ (actSetAttnMode b s).1.tracker = s.tracker ∧
    (actSetAttnMode b s).1.check = s.check ∧ (actSetAttnMode b s).1.store = s.store ∧
    (actSetAttnMode b s).1.tx = s.tx ∧ (actSetAttnMode b s).1.dock = s.dock ∧ (actSetAttnMode b s).1.clock = s.clock ∧
    (actSetAttnMode b s).1.freeUses = s.freeUses := by
  simp only [actSetAttnMode]
  repeat' split
  all_goals simp [refuse]

end Sys2Proof.Machine
end

