-- ==== Sys2Proof/Laws/Notices.lean ====
section
/-! SUPPORT. What announcing, occurring and queueing do to the van link (R180 to R183). -/

namespace Sys2Proof.Machine

variable (s : State)

/-- A cause that is not due, or a full outbound queue, leaves an announcement without effect. -/
theorem State.announce_idle (c : Cause) (h : (s.notice c).due = false ∨ Config.outboundCapacity ≤ s.van.outbound.length) :
    s.announce c = s := by
  unfold State.announce
  rw [if_neg]
  rintro ⟨h1, h2⟩
  rcases h with h | h
  · simp [h] at h1
  · omega

/-- Where nothing due waits with a place free, announcing a list of causes changes nothing. -/
theorem State.announceList_settled (cs : List Cause) (h : s.settled) : s.announceList cs = s := by
  induction cs with
  | nil => rfl
  | cons c cs ih =>
    have hc : s.announce c = s := s.announce_idle c (h.imp (fun h => h c) id)
    change List.foldl State.announce (s.announce c) cs = s
    rw [hc]
    exact ih

/-- Where nothing due waits with a place free, the end of an event changes nothing. -/
theorem State.announceDue_settled (h : s.settled) : s.announceDue = s := s.announceList_settled _ h

/-- The end of an event in a settled state. -/
theorem State.finish_settled (h : s.settled) : s.finish = .next s := by rw [State.finish, s.announceDue_settled h]

/-- `settled` speaks of the van link alone. -/
theorem State.settled_of_van {s t : State} (h : s.settled) (hv : t.van = s.van) : t.settled := by
  unfold State.settled State.notice at *
  rw [hv]
  exact h

/-- No NOTICE, no pulse. -/
theorem Van.pulsed_zero (v : Van) : v.pulsed 0 v := by
  unfold Van.pulsed
  split
  · refine ⟨by simp, ?_⟩
    split <;> rfl
  · exact ⟨rfl, rfl⟩

/-- One NOTICE, one pulse (R187). -/
theorem Van.pulsed_pulse {v w : Van} (h1 : w.attnMode = v.attnMode) (h2 : w.attnPhase = v.attnPhase)
    (h3 : w.attnOwed = v.attnOwed) : v.pulsed 1 w.pulse := by
  unfold Van.pulsed Van.pulse
  rw [h1]
  cases hm : v.attnMode <;> cases hp : w.attnPhase <;> rw [h2] at hp <;> simp_all

/-- NOTICEs queued after others give their pulses after theirs. -/
theorem Van.pulsed_add {v w x : Van} {j k : Nat} (hm : w.attnMode = v.attnMode) (h1 : v.pulsed j w) (h2 : w.pulsed k x) :
    v.pulsed (j + k) x := by
  unfold Van.pulsed at *
  rw [hm] at h2
  split at h1
  · rename_i hp
    rw [if_pos hp] at h2 ⊢
    obtain ⟨a1, a2⟩ := h1
    obtain ⟨b1, b2⟩ := h2
    rw [a1] at b1 b2
    rw [b1, b2, a2]
    cases hq : v.attnPhase <;> rcases Nat.eq_zero_or_pos j with hj | hj <;> simp_all <;> omega
  · rename_i hp
    rw [if_neg hp] at h2 ⊢
    exact ⟨h2.1.trans h1.1, h2.2.trans h1.2⟩

/-- One announcement appends at most one NOTICE and leaves the rest of the link alone. -/
theorem State.announce_van (c : Cause) :
    (∃ ns, (s.announce c).van.outbound = s.van.outbound ++ ns ∧ (∀ m ∈ ns, m.kind = 0x85) ∧ s.van.pulsed ns.length (s.announce c).van) ∧
    (s.announce c).van.hold = s.van.hold ∧ (s.announce c).van.rx = s.van.rx ∧
    (s.announce c).van.resetReply = s.van.resetReply ∧ (s.announce c).van.attnMode = s.van.attnMode ∧
    (s.announce c).van.counters = s.van.counters := by
  unfold State.announce
  split
  · refine ⟨⟨[(s.notice c).message c], ?_, by simp [Notice.message], Van.pulsed_pulse rfl rfl rfl⟩, ?_⟩ <;>
      simp only [State.modVan_van, State.modNotice, State.queueMessage, Van.pulse] <;> split <;> simp
  · exact ⟨⟨[], by simp, by simp, s.van.pulsed_zero⟩, rfl, rfl, rfl, rfl, rfl⟩

/-- Announcing a list of causes appends NOTICEs and leaves the rest of the link alone. -/
theorem State.announceList_van (cs : List Cause) : ∀ s : State,
    (∃ ns, (s.announceList cs).van.outbound = s.van.outbound ++ ns ∧ (∀ m ∈ ns, m.kind = 0x85) ∧ s.van.pulsed ns.length (s.announceList cs).van) ∧
    (s.announceList cs).van.hold = s.van.hold ∧ (s.announceList cs).van.rx = s.van.rx ∧
    (s.announceList cs).van.resetReply = s.van.resetReply ∧ (s.announceList cs).van.attnMode = s.van.attnMode ∧
    (s.announceList cs).van.counters = s.van.counters := by
  induction cs with
  | nil => exact fun s => ⟨⟨[], by simp [State.announceList], by simp, s.van.pulsed_zero⟩, rfl, rfl, rfl, rfl, rfl⟩
  | cons c cs ih =>
    intro s
    obtain ⟨⟨n1, h1, k1, p1⟩, a2, a3, a4, a5, a6⟩ := s.announce_van c
    obtain ⟨⟨n2, h2, k2, p2⟩, b2, b3, b4, b5, b6⟩ := ih (s.announce c)
    refine ⟨⟨n1 ++ n2, ?_, ?_, ?_⟩, b2.trans a2, b3.trans a3, b4.trans a4, b5.trans a5, b6.trans a6⟩
    · change ((s.announce c).announceList cs).van.outbound = _
      rw [h2, h1, List.append_assoc]
    · intro m hm
      exact (List.mem_append.1 hm).elim (k1 m) (k2 m)
    · rw [List.length_append]
      exact Van.pulsed_add a5 p1 p2

/-- The end of an event appends NOTICEs and leaves the rest of the link alone. -/
theorem State.announceDue_van :
    (∃ ns, s.announceDue.van.outbound = s.van.outbound ++ ns ∧ (∀ m ∈ ns, m.kind = 0x85) ∧ s.van.pulsed ns.length s.announceDue.van) ∧
    s.announceDue.van.hold = s.van.hold ∧ s.announceDue.van.rx = s.van.rx ∧
    s.announceDue.van.resetReply = s.van.resetReply ∧ s.announceDue.van.attnMode = s.van.attnMode ∧
    s.announceDue.van.counters = s.van.counters := by
  unfold State.announceDue
  exact State.announceList_van Cause.all s

/-- An occurrence changes the notice state alone. -/
@[simp] theorem State.occur_van (c : Cause) (d : List Byte) :
    (s.occur c d).van.outbound = s.van.outbound ∧ (s.occur c d).van.hold = s.van.hold ∧ (s.occur c d).van.rx = s.van.rx ∧
    (s.occur c d).van.resetReply = s.van.resetReply ∧ (s.occur c d).van.attnMode = s.van.attnMode ∧
    (s.occur c d).van.counters = s.van.counters := ⟨rfl, rfl, rfl, rfl, rfl, rfl⟩

/-- The notice state of the cause that occurred (R182). -/
theorem State.occur_notice (c : Cause) (d : List Byte) :
    (s.occur c d).notice c =
      if (s.notice c).pending then { s.notice c with count := satStep 65535 (s.notice c).count }
      else { s.notice c with pending := true, count := 1, detail := some d } := by
  simp only [State.occur, State.modNotice, State.notice, State.modVan_van, Fin.getElem_fin, Vector.getElem_set_self]
  split <;> simp_all

/-- Every other cause is left alone by an occurrence. -/
theorem State.occur_notice_ne {c e : Cause} (h : e ≠ c) (d : List Byte) : (s.occur c d).notice e = s.notice e := by
  have hne : (c.code : Nat) ≠ (e.code : Nat) := by revert h; cases c <;> cases e <;> decide
  simp [State.occur, State.modNotice, State.notice, hne]

/-! ## What occurred -/

/-- Two notice states that differ at most in the announced flag. -/
def Notice.sameBut (n m : Notice) : Prop :=
  m.masked = n.masked ∧ m.pending = n.pending ∧ m.count = n.count ∧ m.detail = n.detail

/-- A pulse leaves the notice state alone. -/
@[simp] theorem Van.pulse_notices (v : Van) : v.pulse.notices = v.notices := by
  unfold Van.pulse
  split <;> rfl

/-- One announcement sets at most an announced flag. -/
theorem State.announce_notice (c e : Cause) : (s.notice e).sameBut ((s.announce c).notice e) := by
  unfold State.announce
  split
  · have hv : (((s.queueMessage ((s.notice c).message c)).modNotice c fun n => { n with announced := true }).modVan
        Van.pulse).notice e = ((s.queueMessage ((s.notice c).message c)).modNotice c fun n =>
          { n with announced := true }).notice e := by
      simp only [State.notice, State.modVan_van, Van.pulse_notices]
    rw [hv]
    by_cases h : e = c
    · subst h
      simp [State.notice, State.modNotice, State.queueMessage, Notice.sameBut]
    · have hne : (c.code : Nat) ≠ (e.code : Nat) := by revert h; cases c <;> cases e <;> decide
      simp [State.notice, State.modNotice, State.queueMessage, Notice.sameBut, hne]
  · exact ⟨rfl, rfl, rfl, rfl⟩

/-- Announcing a list of causes sets at most announced flags. -/
theorem State.announceList_notice (e : Cause) (cs : List Cause) : ∀ s : State,
    (s.notice e).sameBut ((s.announceList cs).notice e) := by
  induction cs with
  | nil => exact fun s => ⟨rfl, rfl, rfl, rfl⟩
  | cons c cs ih =>
    intro s
    obtain ⟨a1, a2, a3, a4⟩ := s.announce_notice c e
    obtain ⟨b1, b2, b3, b4⟩ := ih (s.announce c)
    exact ⟨b1.trans a1, b2.trans a2, b3.trans a3, b4.trans a4⟩

/-- Announcing notices does not disturb what occurred before. -/
theorem State.raised_announceList {s u : State} {l : List (Cause × List Byte)} (h : s.raised u l) (cs : List Cause) :
    s.raised (u.announceList cs) l := by
  intro c
  obtain ⟨a1, a2, a3, a4⟩ := State.announceList_notice c cs u
  generalize u.announceList cs = t at a1 a2 a3 a4
  have hc := h c
  revert hc
  cases l.lookup c <;> simp only [a1, a2, a3, a4] <;> exact id

/-- The end of an event does not disturb what occurred before. -/
theorem State.raised_announceDue {s u : State} {l : List (Cause × List Byte)} (h : s.raised u l) : s.raised u.announceDue l :=
  State.raised_announceList h Cause.all

/-- Nothing occurs where the notice state is left alone. -/
theorem State.raised_nil {s u : State} (h : u.van.notices = s.van.notices) : s.raised u [] := by
  intro c
  simp [State.notice, h]

/-- One occurrence after a state in which nothing has occurred. -/
theorem State.raised_occur {s u v : State} (c : Cause) (d : List Byte) (hu : u.van.notices = s.van.notices)
    (hv : v.van.notices = (u.occur c d).van.notices) : s.raised v [(c, d)] := by
  intro e
  have h1 : v.notice e = (u.occur c d).notice e := by simp only [State.notice, hv]
  have h2 : u.notice e = s.notice e := by simp only [State.notice, hu]
  rw [h1]
  by_cases h : e = c
  · subst h
    rw [State.occur_notice, h2]
    cases hp : (s.notice e).pending <;> simp [List.lookup, hp]
  · rw [State.occur_notice_ne u h, h2]
    have : (e == c) = false := by simpa using h
    simp [List.lookup, this]

/-- The end of an event that left everything but the notice state of the van link alone. -/
theorem State.onlyNotices_announceDue {s u : State} (h1 : u.van.outbound = s.van.outbound) (h2 : u.van.hold = s.van.hold)
    (h3 : u.van.rx = s.van.rx) (h4 : u.van.resetReply = s.van.resetReply) (h5 : u.van.attnMode = s.van.attnMode)
    (h6 : u.van.counters = s.van.counters) (h7 : s.van.pulsed 0 u.van) : s.onlyNotices u.announceDue := by
  have h := u.announceDue_van
  generalize u.announceDue = t at h
  obtain ⟨⟨ns, e1, k1, p1⟩, e2, e3, e4, e5, e6⟩ := h
  exact ⟨⟨ns, by rw [e1, h1], k1, by simpa using Van.pulsed_add h5 h7 p1⟩, ⟨e3.trans h3, e2.trans h2, e4.trans h4, e5.trans h5⟩, e6.trans h6⟩

end Sys2Proof.Machine
end

