-- ==== Sys2Proof/Laws/Mail.lean ====
section
/-! SUPPORT. Which operations leave the queues of the van link alone: outbound queue, hold, bytes received and a waiting reset. A
command is answered with them as they stood (R175). -/

namespace Sys2Proof.Machine

variable (s : State)

/-- The queues of the van link stay. -/
@[simp] theorem State.modNotice_mail (c : Cause) (f : Notice → Notice) :
    (s.modNotice c f).van.outbound = s.van.outbound ∧ (s.modNotice c f).van.hold = s.van.hold ∧
    (s.modNotice c f).van.rx = s.van.rx ∧ (s.modNotice c f).van.resetReply = s.van.resetReply := by
  exact ⟨rfl, rfl, rfl, rfl⟩

/-- The queues of the van link stay. -/
@[simp] theorem State.noteComplete_mail (n before : Nat) :
    (s.noteComplete n before).van.outbound = s.van.outbound ∧ (s.noteComplete n before).van.hold = s.van.hold ∧
    (s.noteComplete n before).van.rx = s.van.rx ∧ (s.noteComplete n before).van.resetReply = s.van.resetReply := by
  simp only [State.noteComplete]
  repeat' split
  all_goals simp

/-- The queues of the van link stay. -/
@[simp] theorem State.closeRule_mail (n : Nat) (cause : CloseCause) :
    (s.closeRule n cause).van.outbound = s.van.outbound ∧ (s.closeRule n cause).van.hold = s.van.hold ∧
    (s.closeRule n cause).van.rx = s.van.rx ∧ (s.closeRule n cause).van.resetReply = s.van.resetReply := by
  simp only [State.closeRule]
  refine ⟨?_, ?_, ?_, ?_⟩ <;> simp [foldl_keeps]

/-- The queues of the van link stay. -/
@[simp] theorem State.setChannelState_mail (ch : ChannelNo) (st : ChannelState) :
    (s.setChannelState ch st).van.outbound = s.van.outbound ∧ (s.setChannelState ch st).van.hold = s.van.hold ∧
    (s.setChannelState ch st).van.rx = s.van.rx ∧ (s.setChannelState ch st).van.resetReply = s.van.resetReply := by
  simp only [State.setChannelState]
  all_goals simp

/-- The queues of the van link stay. -/
@[simp] theorem State.closeWindow_mail (ch : ChannelNo) :
    (s.closeWindow ch).van.outbound = s.van.outbound ∧ (s.closeWindow ch).van.hold = s.van.hold ∧
    (s.closeWindow ch).van.rx = s.van.rx ∧ (s.closeWindow ch).van.resetReply = s.van.resetReply := by
  simp only [State.closeWindow]
  repeat' split
  all_goals simp

/-- The queues of the van link stay. -/
@[simp] theorem State.endAttempt_mail (ch : ChannelNo) (o : DecodeOutcome) :
    (s.endAttempt ch o).van.outbound = s.van.outbound ∧ (s.endAttempt ch o).van.hold = s.van.hold ∧
    (s.endAttempt ch o).van.rx = s.van.rx ∧ (s.endAttempt ch o).van.resetReply = s.van.resetReply := by
  simp only [State.endAttempt]
  repeat' split
  all_goals simp

/-- The queues of the van link stay. -/
@[simp] theorem State.disableChannel_mail (ch : ChannelNo) (e : PlanEntry) :
    (s.disableChannel ch e).van.outbound = s.van.outbound ∧ (s.disableChannel ch e).van.hold = s.van.hold ∧
    (s.disableChannel ch e).van.rx = s.van.rx ∧ (s.disableChannel ch e).van.resetReply = s.van.resetReply := by
  simp only [State.disableChannel]
  all_goals simp

/-- The queues of the van link stay. -/
@[simp] theorem State.enableChannel_mail (ch : ChannelNo) (e : PlanEntry) :
    (s.enableChannel ch e).van.outbound = s.van.outbound ∧ (s.enableChannel ch e).van.hold = s.van.hold ∧
    (s.enableChannel ch e).van.rx = s.van.rx ∧ (s.enableChannel ch e).van.resetReply = s.van.resetReply := by
  simp only [State.enableChannel]
  repeat' split
  all_goals simp

/-- The queues of the van link stay. -/
@[simp] theorem State.setLink_mail (l : LinkState) (c : DockCause) :
    (s.setLink l c).van.outbound = s.van.outbound ∧ (s.setLink l c).van.hold = s.van.hold ∧
    (s.setLink l c).van.rx = s.van.rx ∧ (s.setLink l c).van.resetReply = s.van.resetReply := by
  simp only [State.setLink]
  all_goals simp

/-- The queues of the van link stay. -/
@[simp] theorem State.enterAlign_mail (c : DockCause) :
    (s.enterAlign c).van.outbound = s.van.outbound ∧ (s.enterAlign c).van.hold = s.van.hold ∧
    (s.enterAlign c).van.rx = s.van.rx ∧ (s.enterAlign c).van.resetReply = s.van.resetReply := by
  simp only [State.enterAlign]
  all_goals simp

/-- The queues of the van link stay. -/
@[simp] theorem State.enterFault_mail (c : DockCause) :
    (s.enterFault c).van.outbound = s.van.outbound ∧ (s.enterFault c).van.hold = s.van.hold ∧
    (s.enterFault c).van.rx = s.van.rx ∧ (s.enterFault c).van.resetReply = s.van.resetReply := by
  simp only [State.enterFault]
  all_goals simp

/-- The queues of the van link stay. -/
@[simp] theorem State.enterDown_mail (c : DockCause) :
    (s.enterDown c).van.outbound = s.van.outbound ∧ (s.enterDown c).van.hold = s.van.hold ∧
    (s.enterDown c).van.rx = s.van.rx ∧ (s.enterDown c).van.resetReply = s.van.resetReply := by
  simp only [State.enterDown]
  repeat' split
  all_goals simp

/-- The queues of the van link stay. -/
@[simp] theorem State.exchangeFailure_mail (c : DockCause) :
    (s.exchangeFailure c).van.outbound = s.van.outbound ∧ (s.exchangeFailure c).van.hold = s.van.hold ∧
    (s.exchangeFailure c).van.rx = s.van.rx ∧ (s.exchangeFailure c).van.resetReply = s.van.resetReply := by
  simp only [State.exchangeFailure]
  repeat' split
  all_goals simp

/-- The queues of the van link stay. -/
@[simp] theorem State.deriveSignal_mail :
    (s.deriveSignal).van.outbound = s.van.outbound ∧ (s.deriveSignal).van.hold = s.van.hold ∧
    (s.deriveSignal).van.rx = s.van.rx ∧ (s.deriveSignal).van.resetReply = s.van.resetReply := by
  simp only [State.deriveSignal]
  repeat' split
  all_goals simp

/-- The queues of the van link stay. -/
@[simp] theorem State.endUpload_mail :
    (s.endUpload).van.outbound = s.van.outbound ∧ (s.endUpload).van.hold = s.van.hold ∧
    (s.endUpload).van.rx = s.van.rx ∧ (s.endUpload).van.resetReply = s.van.resetReply := by
  simp only [State.endUpload]
  all_goals simp

/-- The queues of the van link stay. -/
@[simp] theorem State.takeAck_mail (n : Byte) :
    (s.takeAck n).van.outbound = s.van.outbound ∧ (s.takeAck n).van.hold = s.van.hold ∧
    (s.takeAck n).van.rx = s.van.rx ∧ (s.takeAck n).van.resetReply = s.van.resetReply := by
  simp only [State.takeAck]
  repeat' split
  all_goals simp

/-- The queues of the van link stay. -/
@[simp] theorem State.takeNak_mail (n why : Byte) :
    (s.takeNak n why).van.outbound = s.van.outbound ∧ (s.takeNak n why).van.hold = s.van.hold ∧
    (s.takeNak n why).van.rx = s.van.rx ∧ (s.takeNak n why).van.resetReply = s.van.resetReply := by
  simp only [State.takeNak]
  repeat' split
  all_goals simp

/-- The queues of the van link stay. -/
@[simp] theorem State.judgeAbility_mail (p : AbilityPage) :
    (s.judgeAbility p).van.outbound = s.van.outbound ∧ (s.judgeAbility p).van.hold = s.van.hold ∧
    (s.judgeAbility p).van.rx = s.van.rx ∧ (s.judgeAbility p).van.resetReply = s.van.resetReply := by
  simp only [State.judgeAbility]
  repeat' split
  all_goals simp

/-- The queues of the van link stay. -/
@[simp] theorem State.completeExchange_mail (p : DepotPage) :
    (s.completeExchange p).van.outbound = s.van.outbound ∧ (s.completeExchange p).van.hold = s.van.hold ∧
    (s.completeExchange p).van.rx = s.van.rx ∧ (s.completeExchange p).van.resetReply = s.van.resetReply := by
  simp only [State.completeExchange]
  all_goals simp

/-- The queues of the van link stay. -/
@[simp] theorem State.dockArrive_mail (a : DockArrival) :
    (s.dockArrive a).van.outbound = s.van.outbound ∧ (s.dockArrive a).van.hold = s.van.hold ∧
    (s.dockArrive a).van.rx = s.van.rx ∧ (s.dockArrive a).van.resetReply = s.van.resetReply := by
  simp only [State.dockArrive]
  repeat' split
  all_goals simp

/-- The queues of the van link stay. -/
@[simp] theorem State.enterExchange_mail :
    (s.enterExchange).van.outbound = s.van.outbound ∧ (s.enterExchange).van.hold = s.van.hold ∧
    (s.enterExchange).van.rx = s.van.rx ∧ (s.enterExchange).van.resetReply = s.van.resetReply := by
  simp only [State.enterExchange]
  all_goals simp

/-- The queues of the van link stay. -/
@[simp] theorem State.skipStop_mail (i : Nat) (p : Stop) :
    (s.skipStop i p).van.outbound = s.van.outbound ∧ (s.skipStop i p).van.hold = s.van.hold ∧
    (s.skipStop i p).van.rx = s.van.rx ∧ (s.skipStop i p).van.resetReply = s.van.resetReply := by
  simp only [State.skipStop]
  repeat' split
  all_goals simp

/-- The queues of the van link stay. -/
@[simp] theorem State.activateRoute_mail :
    (s.activateRoute).van.outbound = s.van.outbound ∧ (s.activateRoute).van.hold = s.van.hold ∧
    (s.activateRoute).van.rx = s.van.rx ∧ (s.activateRoute).van.resetReply = s.van.resetReply := by
  simp only [State.activateRoute]
  all_goals simp

/-- The queues of the van link stay. -/
@[simp] theorem State.expirePoll_mail (e : PollEntry) (c : Bool) :
    (s.expirePoll e c).van.outbound = s.van.outbound ∧ (s.expirePoll e c).van.hold = s.van.hold ∧
    (s.expirePoll e c).van.rx = s.van.rx ∧ (s.expirePoll e c).van.resetReply = s.van.resetReply := by
  simp only [State.expirePoll]
  repeat' split
  all_goals simp

/-- The queues of the van link stay. -/
@[simp] theorem State.setClockState_mail (c : ClockState) (w : ClockCause) :
    (s.setClockState c w).van.outbound = s.van.outbound ∧ (s.setClockState c w).van.hold = s.van.hold ∧
    (s.setClockState c w).van.rx = s.van.rx ∧ (s.setClockState c w).van.resetReply = s.van.resetReply := by
  simp only [State.setClockState]
  repeat' split
  all_goals simp

/-- The queues of the van link stay. -/
@[simp] theorem State.commitStop_mail (i : Nat) (r : Record) (a u : Bool) :
    (s.commitStop i r a u).van.outbound = s.van.outbound ∧ (s.commitStop i r a u).van.hold = s.van.hold ∧
    (s.commitStop i r a u).van.rx = s.van.rx ∧ (s.commitStop i r a u).van.resetReply = s.van.resetReply := by
  simp only [State.commitStop]
  repeat' split
  all_goals simp

/-- The queues of the van link stay. -/
@[simp] theorem State.testStoreHigh_mail (n : Nat) :
    (s.testStoreHigh n).van.outbound = s.van.outbound ∧ (s.testStoreHigh n).van.hold = s.van.hold ∧
    (s.testStoreHigh n).van.rx = s.van.rx ∧ (s.testStoreHigh n).van.resetReply = s.van.resetReply := by
  simp only [State.testStoreHigh]
  repeat' split
  all_goals simp

/-- The queues of the van link stay. -/
@[simp] theorem actSetChannel_mail (b : SetChannelBody) :
    (actSetChannel b s).1.van.outbound = s.van.outbound ∧ (actSetChannel b s).1.van.hold = s.van.hold ∧
    (actSetChannel b s).1.van.rx = s.van.rx ∧ (actSetChannel b s).1.van.resetReply = s.van.resetReply := by
  simp only [actSetChannel]
  repeat' split
  all_goals simp [refuse]

/-- The queues of the van link stay. -/
@[simp] theorem actCloseSegment_mail (g : Byte) :
    (actCloseSegment g s).1.van.outbound = s.van.outbound ∧ (actCloseSegment g s).1.van.hold = s.van.hold ∧
    (actCloseSegment g s).1.van.rx = s.van.rx ∧ (actCloseSegment g s).1.van.resetReply = s.van.resetReply := by
  simp only [actCloseSegment]
  repeat' split
  all_goals simp [refuse]

/-- The queues of the van link stay. -/
@[simp] theorem actSkipStop_mail (i : Word16) :
    (actSkipStop i s).1.van.outbound = s.van.outbound ∧ (actSkipStop i s).1.van.hold = s.van.hold ∧
    (actSkipStop i s).1.van.rx = s.van.rx ∧ (actSkipStop i s).1.van.resetReply = s.van.resetReply := by
  simp only [actSkipStop]
  repeat' split
  all_goals simp [refuse]

/-- The queues of the van link stay. -/
@[simp] theorem actSetClock_mail (d : Word16) (x : Word24) :
    (actSetClock d x s).1.van.outbound = s.van.outbound ∧ (actSetClock d x s).1.van.hold = s.van.hold ∧
    (actSetClock d x s).1.van.rx = s.van.rx ∧ (actSetClock d x s).1.van.resetReply = s.van.resetReply := by
  simp only [actSetClock]
  repeat' split
  all_goals simp [refuse]

/-- The queues of the van link stay. -/
@[simp] theorem actClockSource_mail (b : Byte) :
    (actClockSource b s).1.van.outbound = s.van.outbound ∧ (actClockSource b s).1.van.hold = s.van.hold ∧
    (actClockSource b s).1.van.rx = s.van.rx ∧ (actClockSource b s).1.van.resetReply = s.van.resetReply := by
  simp only [actClockSource]
  repeat' split
  all_goals simp [refuse]

/-- The queues of the van link stay. -/
@[simp] theorem actDockReset_mail :
    (actDockReset s).1.van.outbound = s.van.outbound ∧ (actDockReset s).1.van.hold = s.van.hold ∧
    (actDockReset s).1.van.rx = s.van.rx ∧ (actDockReset s).1.van.resetReply = s.van.resetReply := by
  simp only [actDockReset]
  all_goals simp

/-- The queues of the van link stay. -/
@[simp] theorem actSetDock_mail (b : SetDockBody) :
    (actSetDock b s).1.van.outbound = s.van.outbound ∧ (actSetDock b s).1.van.hold = s.van.hold ∧
    (actSetDock b s).1.van.rx = s.van.rx ∧ (actSetDock b s).1.van.resetReply = s.van.resetReply := by
  simp only [actSetDock]
  repeat' split
  all_goals simp [refuse]

/-- The queues of the van link stay. -/
@[simp] theorem actClearCounters_mail (b : Byte) :
    (actClearCounters b s).1.van.outbound = s.van.outbound ∧ (actClearCounters b s).1.van.hold = s.van.hold ∧
    (actClearCounters b s).1.van.rx = s.van.rx ∧ (actClearCounters b s).1.van.resetReply = s.van.resetReply := by
  simp only [actClearCounters]
  repeat' split
  all_goals simp [refuse]

/-- The queues of the van link stay. -/
@[simp] theorem actSetAttnMode_mail (b : Byte) :
    (actSetAttnMode b s).1.van.outbound = s.van.outbound ∧ (actSetAttnMode b s).1.van.hold = s.van.hold ∧
    (actSetAttnMode b s).1.van.rx = s.van.rx ∧ (actSetAttnMode b s).1.van.resetReply = s.van.resetReply := by
  simp only [actSetAttnMode]
  repeat' split
  all_goals simp [refuse]

end Sys2Proof.Machine
end

