-- ==== Sys2Proof/WellFormed.lean ====
section
/-! DEFINITION. Which commands the spec's forms admit: the operand bounds that the operands' types do not already hold. The
meanings are total and do not rely on this check. -/

namespace Sys2Proof

/-- The operand bounds of one command: a coded block holds a body of 14 to 30 bytes (R1), LOAD_STOPS carries 1 to 16 stop
records (R25), a stop index lies in 0 to 4095 and a segment number in 0 to 255 (00_scope.md, Stops and segments), a message
arrives as at least one byte (R172), and symbols in HUNT arrive as at least one (R5). -/
def Instr.wellFormed : Instr → Bool
  | .blockComplete _ _ body _ _ => 14 ≤ body.length && body.length ≤ 30
  | .loadStops _ _ _ records => 1 ≤ records.length && records.length ≤ 16
  | .holdTimerExpiry stop => stop < 4096
  | .gatherLimitExpiry stop => stop < 4096
  | .dwellTimerExpiry segment => segment < 256
  | .vanMessageArrival bytes => !bytes.isEmpty
  | .vanMessageDiscard bytes => !bytes.isEmpty
  | .dockMessageArrival bytes => !bytes.isEmpty
  | .syncDetection _ symbols => !symbols.isEmpty
  | .headerComplete .. | .carrierLoss _ | .carrierPresent _ | .streamStopped _ | .muteHoldExpiry _
  | .setChannel .. | .captureFrame _ | .readForeign .. | .checkStart | .checkCompletion | .loadBegin .. | .loadSegment ..
  | .loadEnd .. | .loadAbort .. | .indexBuildComplete | .retireRoute _ | .clearRoute _ | .readStop .. | .setProfile ..
  | .setRouteParams .. | .setDisposition .. | .openSegment .. | .closeSegment .. | .skipStop .. | .unskipStop ..
  | .readRevisit .. | .readSegment .. | .readRecords .. | .pollTake | .guardComplete | .clearWaitExpiry | .burstEnd
  | .listenWindowExpiry | .pollStop .. | .pollCancel .. | .txInhibit _ | .txEnable _ | .dockSignalPresent | .dockSignalAbsent
  | .dockSignalLoss | .aligned | .symbolError | .dockErrorWindowEnd | .abilityPage _ | .depotPage _ | .pageTimeout
  | .dockSendDone | .blockAck _ | .blockNak .. | .resendDelayExpiry | .ackTimerExpiry | .dockMessageAbandoned | .dockReset _
  | .setDock .. | .ppsPulse | .pulseWatchExpiry | .secondStep | .setClock .. | .clockSource .. | .vanByteGapTimeout
  | .byteWithoutStopBit | .outboundSent | .readStatus .. | .readCounters .. | .clearCounters .. | .ackNotice ..
  | .setNoticeMask .. | .setAttnMode .. | .attnPulseEnd | .attnLowGapEnd | .resetPart _ | .supplyDip | .powerLost | .vddGood
  | .vddGoodLevelCrossing _ | .vbakLow _ | .resetNAssert | .resetNRelease | .startUp _ => true

end Sys2Proof
end

