-- ==== Sys2Proof/Laws/PerInstr.lean ====
section
/-! SUPPORT. One lemma for each row of the table about the command it carries, for statements over all rows. -/

namespace Sys2Proof.Laws

/-- A row that carries a command carries one of the command kinds of R201; where it comes on the dock link it is one of the eight that
link takes (R158); and a well-formed row carries a body that fits its form (R209). -/
def CommandRows.Statement (i : Instr) : Prop :=
  ∀ link tag c, Machine.rowCommand i = some (link, tag, c) →
    Machine.isCommandKind (Machine.commandKind c) = true ∧ (link = .dock → Machine.dockTakes c = true) ∧
      (i.wellFormed = true → Machine.commandFits c = true)

theorem CommandRows.syncDetection (ch : ChannelNo) (symbols : List Nibble) : CommandRows.Statement (.syncDetection ch symbols) :=
  fun _ _ _ h => nomatch h

theorem CommandRows.headerComplete (ch : ChannelNo) (length complement : Byte) : CommandRows.Statement (.headerComplete ch length complement) :=
  fun _ _ _ h => nomatch h

theorem CommandRows.blockComplete (ch : ChannelNo) (fec : Fec) (body : List Byte) (crc : Word16) (levels : List (BitVec 7)) : CommandRows.Statement (.blockComplete ch fec body crc levels) :=
  fun _ _ _ h => nomatch h

theorem CommandRows.carrierLoss (ch : ChannelNo) : CommandRows.Statement (.carrierLoss ch) :=
  fun _ _ _ h => nomatch h

theorem CommandRows.carrierPresent (ch : ChannelNo) : CommandRows.Statement (.carrierPresent ch) :=
  fun _ _ _ h => nomatch h

theorem CommandRows.streamStopped (ch : ChannelNo) : CommandRows.Statement (.streamStopped ch) :=
  fun _ _ _ h => nomatch h

theorem CommandRows.muteHoldExpiry (ch : ChannelNo) : CommandRows.Statement (.muteHoldExpiry ch) :=
  fun _ _ _ h => nomatch h

theorem CommandRows.setChannel (tag : Byte) (b : SetChannelBody) : CommandRows.Statement (.setChannel tag b) :=
  fun _ _ _ h => by cases h; exact ⟨rfl, nofun, fun _ => rfl⟩

theorem CommandRows.captureFrame (ch : ChannelNo) : CommandRows.Statement (.captureFrame ch) :=
  fun _ _ _ h => nomatch h

theorem CommandRows.holdTimerExpiry (stop : Nat) : CommandRows.Statement (.holdTimerExpiry stop) :=
  fun _ _ _ h => nomatch h

theorem CommandRows.gatherLimitExpiry (stop : Nat) : CommandRows.Statement (.gatherLimitExpiry stop) :=
  fun _ _ _ h => nomatch h

theorem CommandRows.readForeign (tag first count : Byte) : CommandRows.Statement (.readForeign tag first count) :=
  fun _ _ _ h => by cases h; exact ⟨rfl, nofun, fun _ => rfl⟩

theorem CommandRows.checkStart : CommandRows.Statement .checkStart :=
  fun _ _ _ h => nomatch h

theorem CommandRows.checkCompletion : CommandRows.Statement .checkCompletion :=
  fun _ _ _ h => nomatch h

theorem CommandRows.loadBegin (link : Link) (tag : Byte) (b : LoadBeginBody) : CommandRows.Statement (.loadBegin link tag b) :=
  fun _ _ _ h => by cases h; exact ⟨rfl, fun _ => rfl, fun _ => rfl⟩

theorem CommandRows.loadStops (link : Link) (tag : Byte) (first : Word16) (records : List StopRecord) : CommandRows.Statement (.loadStops link tag first records) :=
  fun _ _ _ h => by cases h; exact ⟨rfl, fun _ => rfl, fun h => h⟩

theorem CommandRows.loadSegment (link : Link) (tag : Byte) (b : LoadSegmentBody) : CommandRows.Statement (.loadSegment link tag b) :=
  fun _ _ _ h => by cases h; exact ⟨rfl, fun _ => rfl, fun _ => rfl⟩

theorem CommandRows.loadEnd (link : Link) (tag : Byte) : CommandRows.Statement (.loadEnd link tag) :=
  fun _ _ _ h => by cases h; exact ⟨rfl, fun _ => rfl, fun _ => rfl⟩

theorem CommandRows.loadAbort (link : Link) (tag : Byte) : CommandRows.Statement (.loadAbort link tag) :=
  fun _ _ _ h => by cases h; exact ⟨rfl, fun _ => rfl, fun _ => rfl⟩

theorem CommandRows.indexBuildComplete : CommandRows.Statement .indexBuildComplete :=
  fun _ _ _ h => nomatch h

theorem CommandRows.retireRoute (tag : Byte) : CommandRows.Statement (.retireRoute tag) :=
  fun _ _ _ h => by cases h; exact ⟨rfl, nofun, fun _ => rfl⟩

theorem CommandRows.clearRoute (tag : Byte) : CommandRows.Statement (.clearRoute tag) :=
  fun _ _ _ h => by cases h; exact ⟨rfl, nofun, fun _ => rfl⟩

theorem CommandRows.readStop (tag form : Byte) (key : Word32) : CommandRows.Statement (.readStop tag form key) :=
  fun _ _ _ h => by cases h; exact ⟨rfl, nofun, fun _ => rfl⟩

theorem CommandRows.setProfile (link : Link) (tag : Byte) (b : SetProfileBody) : CommandRows.Statement (.setProfile link tag b) :=
  fun _ _ _ h => by cases h; exact ⟨rfl, fun _ => rfl, fun _ => rfl⟩

theorem CommandRows.setRouteParams (link : Link) (tag : Byte) (b : SetRouteParamsBody) : CommandRows.Statement (.setRouteParams link tag b) :=
  fun _ _ _ h => by cases h; exact ⟨rfl, fun _ => rfl, fun _ => rfl⟩

theorem CommandRows.setDisposition (link : Link) (tag : Byte) (b : SetDispositionBody) : CommandRows.Statement (.setDisposition link tag b) :=
  fun _ _ _ h => by cases h; exact ⟨rfl, fun _ => rfl, fun _ => rfl⟩

theorem CommandRows.openSegment (tag segment : Byte) : CommandRows.Statement (.openSegment tag segment) :=
  fun _ _ _ h => by cases h; exact ⟨rfl, nofun, fun _ => rfl⟩

theorem CommandRows.closeSegment (tag segment : Byte) : CommandRows.Statement (.closeSegment tag segment) :=
  fun _ _ _ h => by cases h; exact ⟨rfl, nofun, fun _ => rfl⟩

theorem CommandRows.dwellTimerExpiry (segment : Nat) : CommandRows.Statement (.dwellTimerExpiry segment) :=
  fun _ _ _ h => nomatch h

theorem CommandRows.skipStop (tag : Byte) (stop : Word16) : CommandRows.Statement (.skipStop tag stop) :=
  fun _ _ _ h => by cases h; exact ⟨rfl, nofun, fun _ => rfl⟩

theorem CommandRows.unskipStop (tag : Byte) (stop : Word16) : CommandRows.Statement (.unskipStop tag stop) :=
  fun _ _ _ h => by cases h; exact ⟨rfl, nofun, fun _ => rfl⟩

theorem CommandRows.readRevisit (tag : Byte) (first : Word16) (count : Byte) : CommandRows.Statement (.readRevisit tag first count) :=
  fun _ _ _ h => by cases h; exact ⟨rfl, nofun, fun _ => rfl⟩

theorem CommandRows.readSegment (tag segment : Byte) : CommandRows.Statement (.readSegment tag segment) :=
  fun _ _ _ h => by cases h; exact ⟨rfl, nofun, fun _ => rfl⟩

theorem CommandRows.readRecords (tag : Byte) (start : Word32) (count : Byte) : CommandRows.Statement (.readRecords tag start count) :=
  fun _ _ _ h => by cases h; exact ⟨rfl, nofun, fun _ => rfl⟩

theorem CommandRows.pollTake : CommandRows.Statement .pollTake :=
  fun _ _ _ h => nomatch h

theorem CommandRows.guardComplete : CommandRows.Statement .guardComplete :=
  fun _ _ _ h => nomatch h

theorem CommandRows.clearWaitExpiry : CommandRows.Statement .clearWaitExpiry :=
  fun _ _ _ h => nomatch h

theorem CommandRows.burstEnd : CommandRows.Statement .burstEnd :=
  fun _ _ _ h => nomatch h

theorem CommandRows.listenWindowExpiry : CommandRows.Statement .listenWindowExpiry :=
  fun _ _ _ h => nomatch h

theorem CommandRows.pollStop (tag : Byte) (stop : Word16) : CommandRows.Statement (.pollStop tag stop) :=
  fun _ _ _ h => by cases h; exact ⟨rfl, nofun, fun _ => rfl⟩

theorem CommandRows.pollCancel (tag : Byte) (stop : Word16) : CommandRows.Statement (.pollCancel tag stop) :=
  fun _ _ _ h => by cases h; exact ⟨rfl, nofun, fun _ => rfl⟩

theorem CommandRows.txInhibit (tag : Byte) : CommandRows.Statement (.txInhibit tag) :=
  fun _ _ _ h => by cases h; exact ⟨rfl, nofun, fun _ => rfl⟩

theorem CommandRows.txEnable (tag : Byte) : CommandRows.Statement (.txEnable tag) :=
  fun _ _ _ h => by cases h; exact ⟨rfl, nofun, fun _ => rfl⟩

theorem CommandRows.dockSignalPresent : CommandRows.Statement .dockSignalPresent :=
  fun _ _ _ h => nomatch h

theorem CommandRows.dockSignalAbsent : CommandRows.Statement .dockSignalAbsent :=
  fun _ _ _ h => nomatch h

theorem CommandRows.dockSignalLoss : CommandRows.Statement .dockSignalLoss :=
  fun _ _ _ h => nomatch h

theorem CommandRows.aligned : CommandRows.Statement .aligned :=
  fun _ _ _ h => nomatch h

theorem CommandRows.symbolError : CommandRows.Statement .symbolError :=
  fun _ _ _ h => nomatch h

theorem CommandRows.dockErrorWindowEnd : CommandRows.Statement .dockErrorWindowEnd :=
  fun _ _ _ h => nomatch h

theorem CommandRows.abilityPage (page : AbilityPage) : CommandRows.Statement (.abilityPage page) :=
  fun _ _ _ h => nomatch h

theorem CommandRows.depotPage (page : DepotPage) : CommandRows.Statement (.depotPage page) :=
  fun _ _ _ h => nomatch h

theorem CommandRows.pageTimeout : CommandRows.Statement .pageTimeout :=
  fun _ _ _ h => nomatch h

theorem CommandRows.dockSendDone : CommandRows.Statement .dockSendDone :=
  fun _ _ _ h => nomatch h

theorem CommandRows.blockAck (number : Byte) : CommandRows.Statement (.blockAck number) :=
  fun _ _ _ h => nomatch h

theorem CommandRows.blockNak (number reason : Byte) : CommandRows.Statement (.blockNak number reason) :=
  fun _ _ _ h => nomatch h

theorem CommandRows.resendDelayExpiry : CommandRows.Statement .resendDelayExpiry :=
  fun _ _ _ h => nomatch h

theorem CommandRows.ackTimerExpiry : CommandRows.Statement .ackTimerExpiry :=
  fun _ _ _ h => nomatch h

theorem CommandRows.dockMessageArrival (bytes : List Byte) : CommandRows.Statement (.dockMessageArrival bytes) :=
  fun _ _ _ h => nomatch h

theorem CommandRows.dockMessageAbandoned : CommandRows.Statement .dockMessageAbandoned :=
  fun _ _ _ h => nomatch h

theorem CommandRows.dockReset (tag : Byte) : CommandRows.Statement (.dockReset tag) :=
  fun _ _ _ h => by cases h; exact ⟨rfl, nofun, fun _ => rfl⟩

theorem CommandRows.setDock (tag : Byte) (b : SetDockBody) : CommandRows.Statement (.setDock tag b) :=
  fun _ _ _ h => by cases h; exact ⟨rfl, nofun, fun _ => rfl⟩

theorem CommandRows.ppsPulse : CommandRows.Statement .ppsPulse :=
  fun _ _ _ h => nomatch h

theorem CommandRows.pulseWatchExpiry : CommandRows.Statement .pulseWatchExpiry :=
  fun _ _ _ h => nomatch h

theorem CommandRows.secondStep : CommandRows.Statement .secondStep :=
  fun _ _ _ h => nomatch h

theorem CommandRows.setClock (tag : Byte) (day : Word16) (second : Word24) : CommandRows.Statement (.setClock tag day second) :=
  fun _ _ _ h => by cases h; exact ⟨rfl, nofun, fun _ => rfl⟩

theorem CommandRows.clockSource (tag source : Byte) : CommandRows.Statement (.clockSource tag source) :=
  fun _ _ _ h => by cases h; exact ⟨rfl, nofun, fun _ => rfl⟩

theorem CommandRows.vanMessageArrival (bytes : List Byte) : CommandRows.Statement (.vanMessageArrival bytes) :=
  fun _ _ _ h => nomatch h

theorem CommandRows.vanMessageDiscard (bytes : List Byte) : CommandRows.Statement (.vanMessageDiscard bytes) :=
  fun _ _ _ h => nomatch h

theorem CommandRows.vanByteGapTimeout : CommandRows.Statement .vanByteGapTimeout :=
  fun _ _ _ h => nomatch h

theorem CommandRows.byteWithoutStopBit : CommandRows.Statement .byteWithoutStopBit :=
  fun _ _ _ h => nomatch h

theorem CommandRows.outboundSent : CommandRows.Statement .outboundSent :=
  fun _ _ _ h => nomatch h

theorem CommandRows.readStatus (tag target : Byte) : CommandRows.Statement (.readStatus tag target) :=
  fun _ _ _ h => by cases h; exact ⟨rfl, nofun, fun _ => rfl⟩

theorem CommandRows.readCounters (tag target : Byte) : CommandRows.Statement (.readCounters tag target) :=
  fun _ _ _ h => by cases h; exact ⟨rfl, nofun, fun _ => rfl⟩

theorem CommandRows.clearCounters (tag target : Byte) : CommandRows.Statement (.clearCounters tag target) :=
  fun _ _ _ h => by cases h; exact ⟨rfl, nofun, fun _ => rfl⟩

theorem CommandRows.ackNotice (tag : Byte) (causes : Word16) : CommandRows.Statement (.ackNotice tag causes) :=
  fun _ _ _ h => by cases h; exact ⟨rfl, nofun, fun _ => rfl⟩

theorem CommandRows.setNoticeMask (tag : Byte) (causes : Word16) : CommandRows.Statement (.setNoticeMask tag causes) :=
  fun _ _ _ h => by cases h; exact ⟨rfl, nofun, fun _ => rfl⟩

theorem CommandRows.setAttnMode (tag mode : Byte) : CommandRows.Statement (.setAttnMode tag mode) :=
  fun _ _ _ h => by cases h; exact ⟨rfl, nofun, fun _ => rfl⟩

theorem CommandRows.attnPulseEnd : CommandRows.Statement .attnPulseEnd :=
  fun _ _ _ h => nomatch h

theorem CommandRows.attnLowGapEnd : CommandRows.Statement .attnLowGapEnd :=
  fun _ _ _ h => nomatch h

theorem CommandRows.resetPart (tag : Byte) : CommandRows.Statement (.resetPart tag) :=
  fun _ _ _ h => by cases h; exact ⟨rfl, nofun, fun _ => rfl⟩

theorem CommandRows.supplyDip : CommandRows.Statement .supplyDip :=
  fun _ _ _ h => nomatch h

theorem CommandRows.powerLost : CommandRows.Statement .powerLost :=
  fun _ _ _ h => nomatch h

theorem CommandRows.vddGood : CommandRows.Statement .vddGood :=
  fun _ _ _ h => nomatch h

theorem CommandRows.vddGoodLevelCrossing (rising : Bool) : CommandRows.Statement (.vddGoodLevelCrossing rising) :=
  fun _ _ _ h => nomatch h

theorem CommandRows.vbakLow (low : Bool) : CommandRows.Statement (.vbakLow low) :=
  fun _ _ _ h => nomatch h

theorem CommandRows.resetNAssert : CommandRows.Statement .resetNAssert :=
  fun _ _ _ h => nomatch h

theorem CommandRows.resetNRelease : CommandRows.Statement .resetNRelease :=
  fun _ _ _ h => nomatch h

theorem CommandRows.startUp (upTo : StartStep) : CommandRows.Statement (.startUp upTo) :=
  fun _ _ _ h => nomatch h

end Sys2Proof.Laws
end

