-- ==== Sys2Proof/Laws/Taking.lean ====
section
/-! SUPPORT. The taking of a command (R150, R175): what acting on one leaves alone, and what its row answers when it is taken at
once. -/

namespace Sys2Proof.Machine

variable (s : State)

/-! ## The acts that fold over a list -/

/-- Writing stop records changes the stop table alone. -/
@[simp] theorem State.writeStops_frame (records : List StopRecord) : ∀ (s : State) (i : Nat),
    (s.writeStops i records).pending = s.pending ∧ (s.writeStops i records).supply = s.supply ∧
    (s.writeStops i records).channels = s.channels ∧ (s.writeStops i records).capture = s.capture ∧
    (s.writeStops i records).tracker = s.tracker ∧ (s.writeStops i records).check = s.check ∧
    (s.writeStops i records).store = s.store ∧ (s.writeStops i records).tx = s.tx ∧
    (s.writeStops i records).dock = s.dock ∧ (s.writeStops i records).clock = s.clock ∧
    (s.writeStops i records).van = s.van ∧ (s.writeStops i records).freeUses = s.freeUses := by
  induction records with
  | nil => intro s i; simp [State.writeStops]
  | cons p rest ih => intro s i; simp [State.writeStops, ih]

/-- LOAD_STOPS changes the stop table alone. -/
@[simp] theorem actLoadStops_frame (link : Link) (first : Word16) (records : List StopRecord) :
    (actLoadStops link first records s).1.pending = s.pending ∧ (actLoadStops link first records s).1.supply = s.supply ∧
    (actLoadStops link first records s).1.channels = s.channels ∧
    (actLoadStops link first records s).1.capture = s.capture ∧ (actLoadStops link first records s).1.tracker = s.tracker ∧
    (actLoadStops link first records s).1.check = s.check ∧ (actLoadStops link first records s).1.store = s.store ∧
    (actLoadStops link first records s).1.tx = s.tx ∧ (actLoadStops link first records s).1.dock = s.dock ∧
    (actLoadStops link first records s).1.clock = s.clock ∧ (actLoadStops link first records s).1.van = s.van ∧
    (actLoadStops link first records s).1.freeUses = s.freeUses := by
  simp only [actLoadStops]
  repeat' split
  all_goals simp [refuse]

/-- Closing a list of segments changes what the close rule changes. -/
theorem closeAll_frame (cs : List Nat) (cause : CloseCause) : ∀ s : State,
    (cs.foldl (fun s n => s.closeRule n cause) s).pending = s.pending ∧
    (cs.foldl (fun s n => s.closeRule n cause) s).supply = s.supply ∧
    (cs.foldl (fun s n => s.closeRule n cause) s).channels = s.channels ∧
    (cs.foldl (fun s n => s.closeRule n cause) s).check = s.check ∧
    (cs.foldl (fun s n => s.closeRule n cause) s).store = s.store ∧
    (cs.foldl (fun s n => s.closeRule n cause) s).dock = s.dock ∧
    (cs.foldl (fun s n => s.closeRule n cause) s).clock = s.clock ∧
    (cs.foldl (fun s n => s.closeRule n cause) s).freeUses = s.freeUses ∧
    (cs.foldl (fun s n => s.closeRule n cause) s).van.outbound = s.van.outbound ∧
    (cs.foldl (fun s n => s.closeRule n cause) s).van.hold = s.van.hold ∧
    (cs.foldl (fun s n => s.closeRule n cause) s).van.rx = s.van.rx ∧
    (cs.foldl (fun s n => s.closeRule n cause) s).van.resetReply = s.van.resetReply := by
  induction cs with
  | nil => exact fun s => ⟨rfl, rfl, rfl, rfl, rfl, rfl, rfl, rfl, rfl, rfl, rfl, rfl⟩
  | cons n cs ih => intro s; simp [ih]

/-- RETIRE_ROUTE changes the route, the tracker, the capture filter, the transmitter and the notice state. -/
@[simp] theorem actRetireRoute_frame :
    (actRetireRoute s).1.pending = s.pending ∧ (actRetireRoute s).1.supply = s.supply ∧
    (actRetireRoute s).1.channels = s.channels ∧ (actRetireRoute s).1.check = s.check ∧
    (actRetireRoute s).1.store = s.store ∧ (actRetireRoute s).1.dock = s.dock ∧ (actRetireRoute s).1.clock = s.clock ∧
    (actRetireRoute s).1.freeUses = s.freeUses ∧ (actRetireRoute s).1.van.outbound = s.van.outbound ∧
    (actRetireRoute s).1.van.hold = s.van.hold ∧ (actRetireRoute s).1.van.rx = s.van.rx ∧
    (actRetireRoute s).1.van.resetReply = s.van.resetReply := by
  unfold actRetireRoute
  split
  · simp [refuse]
  · simp [State.retire, closeAll_frame]

/-- A fold of changes to the notice state changes the notice state alone. -/
theorem notices_frame (f : Cause → Notice → Notice) (cs : List Cause) : ∀ s : State,
    (cs.foldl (fun s c => s.modNotice c (f c)) s).pending = s.pending ∧
    (cs.foldl (fun s c => s.modNotice c (f c)) s).supply = s.supply ∧
    (cs.foldl (fun s c => s.modNotice c (f c)) s).channels = s.channels ∧
    (cs.foldl (fun s c => s.modNotice c (f c)) s).capture = s.capture ∧
    (cs.foldl (fun s c => s.modNotice c (f c)) s).route = s.route ∧
    (cs.foldl (fun s c => s.modNotice c (f c)) s).tracker = s.tracker ∧
    (cs.foldl (fun s c => s.modNotice c (f c)) s).check = s.check ∧
    (cs.foldl (fun s c => s.modNotice c (f c)) s).store = s.store ∧
    (cs.foldl (fun s c => s.modNotice c (f c)) s).tx = s.tx ∧
    (cs.foldl (fun s c => s.modNotice c (f c)) s).dock = s.dock ∧
    (cs.foldl (fun s c => s.modNotice c (f c)) s).clock = s.clock ∧
    (cs.foldl (fun s c => s.modNotice c (f c)) s).freeUses = s.freeUses ∧
    (cs.foldl (fun s c => s.modNotice c (f c)) s).van.outbound = s.van.outbound ∧
    (cs.foldl (fun s c => s.modNotice c (f c)) s).van.hold = s.van.hold ∧
    (cs.foldl (fun s c => s.modNotice c (f c)) s).van.rx = s.van.rx ∧
    (cs.foldl (fun s c => s.modNotice c (f c)) s).van.resetReply = s.van.resetReply := by
  induction cs with
  | nil => exact fun s => ⟨rfl, rfl, rfl, rfl, rfl, rfl, rfl, rfl, rfl, rfl, rfl, rfl, rfl, rfl, rfl, rfl⟩
  | cons c cs ih => intro s; simp [ih]

/-! ## Acting on a command -/

/-- A command leaves the queue of commands, the supply monitor and the check in flight alone (R93). -/
theorem act_frame (link : Link) (c : Command) :
    (act link s c).1.pending = s.pending ∧ (act link s c).1.supply = s.supply ∧ (act link s c).1.check = s.check := by
  cases c <;> simp [act, actAckNotice, actSetNoticeMask, notices_frame]

/-- A command leaves the queues of the van link alone: its reply finds them as they stood (R175). -/
theorem act_mail (link : Link) (c : Command) :
    (act link s c).1.van.outbound = s.van.outbound ∧ (act link s c).1.van.hold = s.van.hold ∧
    (act link s c).1.van.rx = s.van.rx ∧ (act link s c).1.van.resetReply = s.van.resetReply := by
  cases c <;> simp [act, actAckNotice, actSetNoticeMask, notices_frame]

/-! ## The rows -/

/-- The state in which a command on an idle link is acted on. -/
theorem State.hold_empty (h : s.van.hold = []) (x : Held) :
    ((s.modVan fun v => { v with hold := v.hold ++ [x] }).modVan fun v => { v with hold := [] }) = s := by
  obtain ⟨_, _, _, _, _, _, _, _, _, _, _, v, _⟩ := s
  cases v
  simp_all [State.modVan]

/-- A command of the van link that arrives when it can be taken at once is acted on and answered (R175). -/
theorem vanCommand_ready (h : s.ready) (tag : Byte) (c : Command) (hc : c ≠ .resetPart) :
    vanCommand tag c s = .next (answered (commandKind c) tag (s.taking.answer .van (heldOf tag c))) := by
  obtain ⟨hr, hh, ho, hp⟩ := h
  have hm : s.supply.monitor = .run := by simpa [State.running] using hr
  have hx : (heldOf tag c).command ≠ some .resetPart := by
    unfold heldOf
    cases c <;> simp_all
  simp only [vanCommand, whenRunning, hm, State.vanHold, hh, List.length_nil, Config.holdCapacity, Nat.zero_lt_succ, if_true]
  simp only [State.takeHead, State.modVan_van, hh, List.nil_append, ho, hp, and_self, if_true, State.noteReset, hx, if_false]
  rw [s.hold_empty hh (heldOf tag c)]
  rfl

/-- RESET_PART that arrives when it can be taken at once: its reply joins, and the reset waits for it (R178). -/
theorem vanCommand_resetPart (h : s.ready) (tag : Byte) :
    vanCommand tag .resetPart s =
      .next (answered 0x61 tag (s.taking.modVan fun v => { v with resetReply := some s.van.outbound.length }, .ok [])) := by
  obtain ⟨hr, hh, ho, hp⟩ := h
  have hm : s.supply.monitor = .run := by simpa [State.running] using hr
  simp only [vanCommand, whenRunning, hm, State.vanHold, hh, List.length_nil, Config.holdCapacity, Nat.zero_lt_succ, if_true]
  simp only [State.takeHead, State.modVan_van, hh, List.nil_append, ho, hp, and_self, if_true]
  rw [s.hold_empty hh (heldOf tag .resetPart)]
  rfl

/-- A depot command that arrives when it can be taken at once is acted on and answered (R150). -/
theorem linkCommand_dockReady (h : s.dockReady) (tag : Byte) (c : Command) :
    linkCommand .dock tag c s = .next (dockAnswered (commandKind c) tag (s.answer .dock (heldOf tag c))) := by
  obtain ⟨hr, hl, hh, hp⟩ := h
  have hm : s.supply.monitor = .run := by simpa [State.running] using hr
  have he : ((s.modDock fun d => { d with held := d.held ++ [heldOf tag c] }).modDock fun d => { d with held := [] }) = s := by
    obtain ⟨_, _, _, _, _, _, _, _, _, d, _, _, _⟩ := s
    cases d
    simp_all [State.modDock]
  have hd : s.dockHold (heldOf tag c) = (s.modDock fun d => { d with held := d.held ++ [heldOf tag c] }).takeHeld := by
    unfold State.dockHold
    revert hl
    cases s.dock.link <;> simp [LinkState.inSession, hh, Config.holdCapacity]
  have hp' : Dock.replyWaits { s.dock with held := s.dock.held ++ [heldOf tag c] } = false := hp
  simp only [linkCommand, whenRunning, hm, hd, State.takeHeld, State.modDock_dock, hh, List.nil_append]
  simp only [hh, List.nil_append] at hp' he
  simp only [hl, hp', Bool.not_false, and_self, if_true, he]
  rfl

/-- The reply of an answered command joins the outbound queue as it stood, and only NOTICEs follow it (R175, R183). -/
theorem replies_answered (kind tag : Byte) (r : State × Answer) (h1 : r.1.van.outbound = s.van.outbound)
    (h2 : r.1.van.hold = []) (h3 : r.1.van.rx = s.van.rx) (h4 : r.1.van.resetReply = none)
    (h5 : r.1.van.attnMode = s.van.attnMode) (h6 : s.van.pulsed 0 r.1.van) :
    s.replies (answered kind tag r) kind tag r.2 := by
  have h := (r.1.queueMessage (replyMessage kind tag r.2)).announceDue_van
  unfold answered
  generalize (r.1.queueMessage (replyMessage kind tag r.2)).announceDue = t at h
  obtain ⟨⟨ns, e1, k1, p1⟩, e2, e3, e4, -, -⟩ := h
  have p2 := Van.pulsed_add (w := { r.1.van with outbound := r.1.van.outbound ++ [replyMessage kind tag r.2] }) h5 h6 p1
  rw [Nat.zero_add] at p2
  simp only [State.queueMessage, State.modVan_van, h1, h2, h3, h4] at e1 e2 e3 e4
  exact ⟨⟨ns, by simp [e1], k1, p2⟩, e2, e3, e4⟩

/-- What an answered command leaves of its act: everything but the van link. -/
theorem answered_frame (kind tag : Byte) (r : State × Answer) :
    (answered kind tag r).pending = r.1.pending ∧ (answered kind tag r).supply = r.1.supply ∧
    (answered kind tag r).channels = r.1.channels ∧ (answered kind tag r).capture = r.1.capture ∧
    (answered kind tag r).route = r.1.route ∧ (answered kind tag r).tracker = r.1.tracker ∧
    (answered kind tag r).check = r.1.check ∧ (answered kind tag r).store = r.1.store ∧
    (answered kind tag r).tx = r.1.tx ∧ (answered kind tag r).dock = r.1.dock ∧ (answered kind tag r).clock = r.1.clock ∧
    (answered kind tag r).freeUses = r.1.freeUses := by
  simp [answered]

/-- The end of an event leaves everything but the van link alone. -/
theorem State.frame_announceDue {s u : State} {l : List Part} (h : s.frame (.van :: l) u) : s.frame (.van :: l) u.announceDue := by
  intro b hb
  have hu := h b hb
  cases b <;> simp_all [State.agree]

/-- An event that left all of the van link but the notice state alone, at its end. -/
theorem State.changesOnly_announceDue {s u : State} {l : List (Cause × List Byte)} {ps : List Part}
    (hv : u.van.outbound = s.van.outbound ∧ u.van.hold = s.van.hold ∧ u.van.rx = s.van.rx ∧
      u.van.resetReply = s.van.resetReply ∧ u.van.attnMode = s.van.attnMode ∧ u.van.counters = s.van.counters)
    (hp : s.van.pulsed 0 u.van) (hr : s.raised u l) (hf : s.frame (.van :: ps) u) : s.changesOnly u.announceDue l ps :=
  ⟨State.onlyNotices_announceDue hv.1 hv.2.1 hv.2.2.1 hv.2.2.2.1 hv.2.2.2.2.1 hv.2.2.2.2.2 hp, State.raised_announceDue hr,
    State.frame_announceDue hf⟩

/-- A command of the van link acted on and answered: what its act did, its reply, and the notices that follow (R175, R183). -/
theorem completes_answered {kind tag : Byte} {r : State × Answer} {l : List (Cause × List Byte)} {ps : List Part}
    (hm : r.1.van.outbound = s.van.outbound ∧ r.1.van.hold = [] ∧ r.1.van.rx = s.van.rx ∧ r.1.van.resetReply = none)
    (hr : s.raised r.1 l) (ha : r.1.van.attnMode = s.van.attnMode) (hw : s.van.pulsed 0 r.1.van)
    (hc : r.1.van.counters = { s.van.counters with taken := s.van.counters.taken + 1 }) (hf : s.frame (.van :: ps) r.1) :
    s.completes (answered kind tag r) kind tag r.2 l ps := by
  have h := (r.1.queueMessage (replyMessage kind tag r.2)).announceDue_van
  have hq : s.raised (r.1.queueMessage (replyMessage kind tag r.2)) l := hr
  have hk := State.raised_announceDue hq
  have hg : s.frame (.van :: ps) (r.1.queueMessage (replyMessage kind tag r.2)) := by
    intro b hb
    have hu := hf b hb
    cases b <;> simp_all [State.agree, State.queueMessage]
  have hg' := State.frame_announceDue hg
  have hp := replies_answered s kind tag r hm.1 hm.2.1 hm.2.2.1 hm.2.2.2 ha hw
  unfold answered at *
  generalize (r.1.queueMessage (replyMessage kind tag r.2)).announceDue = t at *
  obtain ⟨-, -, -, -, e5, e6⟩ := h
  exact ⟨hp, hk, e5.trans ha, e6.trans hc, hg'⟩

/-- A depot command acted on and answered (R150). -/
theorem dockCompletes_answered {kind tag : Byte} {r : State × Answer} {l : List (Cause × List Byte)} {ps : List Part}
    (hd : r.1.dock = s.dock) (hw : s.dock.replyWaits = false)
    (hv : r.1.van.outbound = s.van.outbound ∧ r.1.van.hold = s.van.hold ∧ r.1.van.rx = s.van.rx ∧
      r.1.van.resetReply = s.van.resetReply ∧ r.1.van.attnMode = s.van.attnMode ∧ r.1.van.counters = s.van.counters)
    (hp : s.van.pulsed 0 r.1.van) (hr : s.raised r.1 l) (hf : s.frame (.van :: .dock :: ps) r.1) :
    s.dockCompletes (dockAnswered kind tag r) kind tag r.2 l ps := by
  refine ⟨?_, State.changesOnly_announceDue (u := r.1.modDock _) hv hp hr ?_⟩
  · simp only [dockAnswered, State.announceDue_frame, State.modDock_dock, hd]
    have hn : s.dock.reply = none := by
      simp only [Dock.replyWaits, Bool.or_eq_false_iff] at hw
      simpa using hw.1
    unfold Dock.sendNext
    cases hs : s.dock.sending with
    | none => simp [hn]
    | some m => simp
  · intro b hb
    have hu := hf b hb
    cases b <;> simp_all [State.agree]

end Sys2Proof.Machine
end

