-- ==== Sys2Proof/Tests/Slice0.lean ====
section
/-! SUPPORT. Tests: the form check, the words of the table, the worked cases of the spec, and a witness of the hypotheses of every
statement that has some. -/

namespace Sys2Proof.Tests

open Sys2Proof.Machine

/-! ## The form check refuses what the forms do not admit -/

theorem test_form_symbols : (Instr.syncDetection 0 []).wellFormed = false := by decide
theorem test_form_body_short : (Instr.blockComplete 0 .noError (List.replicate 13 0) 0 []).wellFormed = false := by decide
theorem test_form_body_long : (Instr.blockComplete 0 .noError (List.replicate 31 0) 0 []).wellFormed = false := by decide
theorem test_form_stops_none : (Instr.loadStops .van 0 0 []).wellFormed = false := by decide
theorem test_form_hold_stop : (Instr.holdTimerExpiry 4096).wellFormed = false := by decide
theorem test_form_gather_stop : (Instr.gatherLimitExpiry 4096).wellFormed = false := by decide
theorem test_form_dwell_segment : (Instr.dwellTimerExpiry 256).wellFormed = false := by decide
theorem test_form_van_bytes : (Instr.vanMessageArrival []).wellFormed = false := by decide
theorem test_form_van_discard_bytes : (Instr.vanMessageDiscard []).wellFormed = false := by decide
theorem test_form_dock_bytes : (Instr.dockMessageArrival []).wellFormed = false := by decide
theorem test_form_admits : (Instr.holdTimerExpiry 4095).wellFormed = true := by decide

/-! ## The table gives no row any bits -/

theorem test_no_word : decodeTableWord 8 0x06 = none := rfl
theorem test_fetch_word_unchanged : State.reset.withFetchWord 8 0x06 = State.reset := rfl

/-! ## States to test on -/

/-- A stop's static fields. -/
def fields (id : Word32) : StopStatic :=
  { meterId := id, segment := 0, kindTag := 1, digits := 6, previous := some 500000, previousDay := 1230, previousHour := 8,
    expected := 2000, profile := 0, pollable := true }

/-- A stop with a status. -/
def stop (id : Word32) (st : Status) : Stop := ⟨some (fields id), st, if st = .heard then some .unread else none, 0, 0, none⟩

/-- An ACTIVE route of one segment with two stops, meters 16 and 17. -/
def active (a b : Status) (g : SegmentState) : State :=
  let route : Route := { Route.cold with
    state := .active, number := 7, shiftDay := 1231, stops := [stop 16 a, stop 17 b]
    segments := [{ Segment.loadDefault with
      state := g, stopCount := 2
      counts := ((⟨0, 0, 0, 0, 0, 0, 0⟩ : StatusCounts).mod (· + 1) a).mod (· + 1) b }]
    index := some [(16, 0), (17, 1)] }
  { State.reset with route := route, tracker := ⟨if g = .opened then [0] else [], []⟩ }

/-- A frame on channel 0. -/
def frame (kind : FrameKind) (id : Word32) (token : Option Byte) : Frame :=
  { channel := 0, tag := 0, fromActive := true, corrections := 0, level := 50, kind := kind, meterId := id, reading := 499990,
    flags := ⟨false, false, false, false, false⟩, sequence := 5, token := token }

/-- A state in which channel 0 has handed a frame on. -/
def handing (s : State) (f : Frame) : State := s.modCapture fun c => { c with handedOn := [f] }

/-- A GATHERING entry for stop 0, its timers run out. -/
def entry : Entry :=
  { stop := 0, meterId := 16, created := 0, prior := .unread, best := frame .reading 16 none, eligible := 1, copies := 1, mask := 1,
    union := ⟨false, false, false, false, false⟩, alarm := false, conflict := false, polled := false, followup := false,
    firstHeard := ⟨1231, 50400, .locked⟩, lastHeard := ⟨1231, 50400, .locked⟩, hold := ⟨8000, 8000⟩, gather := ⟨32000, 32000⟩,
    final := none }

/-- Stop 0 HEARD with its entry gathering. -/
def gathering : State := (active .heard .unread .opened).modCapture fun c => { c with heard := [entry] }

/-- A check of stop 0. -/
def checking : Check := ⟨{ entry with final := some ⟨true, 0⟩ }, fields 16, .default, 7⟩

/-- Stop 0 in check. -/
def inCheck : State := (active .heard .unread .opened).modCheck fun _ => some checking

/-- The transmitter in a state. -/
def sending (st : TxState) : State := (active .unread .unread .opened).modTx fun t => { t with state := st }

/-- A poll of stop 0. -/
def poll : PollEntry := ⟨0, 16, .opened⟩

/-- The dock link in a state. -/
def docked (link : LinkState) : State := State.reset.modDock fun d => { d with link := link }

/-- The dock link in the page exchange. -/
def exchanging (x : Exchange) : State := (docked .exchange).modDock fun d => { d with exchange := some x, blockSize := some 32 }

/-- A record. -/
def record (n : Nat) (u : UploadState) : Record :=
  { sequence := n, route := 7, stop := 0, meterId := 16, segment := 0, kindTag := 1, reading := 412, firstHeard := ⟨1231, 50400, .locked⟩,
    movement := .wrap, amount := 1662, hours := some 749, rate := some 5326, ratio := some 110, category := .normal,
    recClass := .billing, evidence := checking.findings.evidence, copies := 1, eligible := 1, mask := 1, bestLevel := 50,
    bestCorrections := 0, bestTag := 0, supersedes := none, upload := u }

/-- UPLOADING with record 1 outstanding and record 2 PENDING. -/
def uploading : State :=
  ((docked .uploading).modDock fun d =>
    { d with blockSize := some 1, format := some 2, outstanding := some ⟨1, 1, 1, some ⟨2000, 2000⟩⟩ }).modStore fun _ =>
    { Store.cold with records := [record 1 .inFlight, record 2 .pending], nextSequence := 3 }

/-- The supply monitor in a state. -/
def supplied (m : MonitorState) : State :=
  State.reset.modSupply fun p => { p with monitor := m, goodCount := some ⟨20, 20⟩ }

/-! ## Worked cases of 05_the_reading_check.md -/

/-- A check of a reading with a previous reading, first heard at day 1231. -/
def caseOf (digits previous day hour expected : Nat) (reading : Word32) (second : Nat) (p : Profile) : Check :=
  { checking with
    entry := { checking.entry with best := { entry.best with reading := reading }, firstHeard := ⟨1231, second, .locked⟩ }
    static := { fields 16 with
      digits := digits, previous := some previous, previousDay := day, previousHour := hour, expected := expected }
    profile := p }

/-- Case 1: a register that has rolled over. -/
theorem test_check_case1 :
    let f := (caseOf 6 998750 1200 9 4800 412 50400 .default).findings
    f.movement = .wrap ∧ f.amount = 1662 ∧ f.hours = some 749 ∧ f.rate = some 5326 ∧ f.ratio = some 110 ∧ f.category = .normal := by
  decide

/-- Case 2: a short interval at the top of a small register. -/
theorem test_check_case2 :
    let f := (caseOf 4 9950 1231 8 300 12 36000 .default).findings
    f.movement = .wrap ∧ f.amount = 62 ∧ f.hours = some 2 ∧ f.rate = some 74400 ∧ f.ratio = some 9999 ∧ f.category = .extreme := by
  decide

/-- Case 3: a small backward step within tolerance. -/
theorem test_check_case3 :
    let f := (caseOf 6 500000 1230 8 2000 499990 50400 { Profile.default with backTol := 20 }).findings
    f.movement = .backstep ∧ f.amount = 0 ∧ f.hours = some 30 ∧ f.rate = some 0 ∧ f.ratio = some 0 ∧ f.category = .low := by
  decide

/-- Case 3, its second version: the same step beyond tolerance. -/
theorem test_check_case3_backward :
    let f := (caseOf 6 500000 1230 8 2000 499990 50400 .default).findings
    f.movement = .backward ∧ f.amount = 10 ∧ f.hours = none ∧ f.rate = none ∧ f.category = .rollback := by decide

/-- Case 4: the rate saturates. -/
theorem test_check_case4 :
    let f := (caseOf 9 100000000 1231 13 50000 102000000 50400 .default).findings
    f.amount = 2000000 ∧ f.hours = some 1 ∧ f.rate = some 4294967295 ∧ f.evidence.rateSat = true ∧ f.ratio = some 9999 ∧
      f.category = .extreme := by decide

/-- Case 7: no expectation. -/
theorem test_check_case7 :
    let f := (caseOf 5 40000 1230 14 0 40030 50400 .default).findings
    f.hours = some 24 ∧ f.rate = some 3000 ∧ f.ratio = some 9999 ∧ f.evidence.noExpect = true ∧ f.category = .extreme := by decide

/-- Case 8: no expectation and no use. -/
theorem test_check_case8 :
    let f := (caseOf 5 40000 1230 14 0 40000 50400 .default).findings
    f.amount = 0 ∧ f.rate = some 0 ∧ f.ratio = some 0 ∧ f.bands.zero = false ∧ f.evidence.noExpect = false ∧ f.category = .low := by
  decide

/-- Case 11: a previous reading dated after the first hearing. -/
theorem test_check_case11 :
    let f := (caseOf 6 7000 65530 10 2000 7200 36000 .default).findings
    f.amount = 200 ∧ f.hours = none ∧ f.evidence.noTime = true ∧ f.category = .noTime := by decide

/-! ## Worked cases of the other chapters -/

/-- 01: 9 errors close a window of an ACTIVE channel into DEGRADED, 26 of a DEGRADED one into MUTED, 1 into ACTIVE. -/
theorem test_window_closes :
    ChannelState.active.afterClose 9 (.default 2) = .degraded ∧ ChannelState.degraded.afterClose 26 (.default 2) = .muted ∧
      ChannelState.degraded.afterClose 1 (.default 2) = .active := by decide

/-- The state a row leads to. -/
def rows (is : List Instr) (s : State) : State := is.foldl State.after s

set_option maxRecDepth 40000 in
/-- 01: the sync pattern is found across two rows (R5), and not from fewer than four symbols taken since the entry to HUNT. -/
theorem test_sync_pattern :
    (rows [.syncDetection 2 [0x5, 0xC, 0x3], .syncDetection 2 [0x9, 0x6]] State.reset).channels[(2 : ChannelNo)].decoder =
        .header ⟨false, true⟩ ∧
      (rows [.syncDetection 2 [0x3, 0x9, 0x6]] State.reset).channels[(2 : ChannelNo)].decoder = .hunt := by decide

set_option maxRecDepth 40000 in
/-- 11: with the backup cell flat before it, a dip loses the contents, though VBAK fell while VDD was good (R190). -/
theorem test_flat_cell :
    (rows [.vbakLow true] State.reset).supply.markerValid = true ∧
      (rows [.vbakLow true, .supplyDip] State.reset).supply.markerValid = false := by decide

set_option maxRecDepth 40000 in
/-- 11: a record returned by a start-up that a reset abandons is not returned again, so that HELLO reports none (R193, R194). -/
theorem test_abandoned_start :
    let dipped := rows [.supplyDip, .resetNAssert, .vddGoodLevelCrossing true] uploading
    let started := rows [.resetNRelease, .startUp .records] (dipped.modSupply fun p => { p with monitor := .held })
    let again := rows [.resetNAssert, .resetNRelease, .startUp .hello] started
    started.supply.starting.map (·.records) = some 1 ∧ again.running = true ∧
      again.van.outbound.map (fun m => m.body[10]?) = [some 0] := by decide

set_option maxRecDepth 40000 in
/-- 09: a duration not taken by its row ends with the next millisecond (R170). -/
theorem test_expiry_is_taken : (rows [] gathering).tick.capture.queue.map (·.stop) = [0] := by decide

set_option maxRecDepth 40000 in
/-- 09, 11: a dwell timer counts in START once step 6 of start-up has started it, not before (R63, R170, R194). -/
theorem test_dwell_in_start :
    let starting (k : StartStep) := ((active .unread .unread .opened).modSegment 0 fun g => { g with dwellLimit := 10 }).modSupply
      fun p => { p with monitor := .start, starting := some ⟨k, .pin, 0, 0⟩ }
    (starting .hello).tick.route.segments.map (·.dwellElapsed) = [1] ∧
      (starting .dwell).tick.route.segments.map (·.dwellElapsed) = [0] := by decide

set_option maxRecDepth 40000 in
/-- 01, 09: a channel's stream stops once 2 ms of the time base have passed since its last edge, not before (R4, R170). -/
theorem test_stream_stops :
    let s := rows [.syncDetection 1 [0x5]] State.reset
    s.tick.tick.channels[(1 : ChannelNo)].stream.isSome = true ∧ s.tick.tick.tick.channels[(1 : ChannelNo)].stream = none := by decide

set_option maxRecDepth 40000 in
/-- 10: a message partly received is discarded once 2 ms of the time base have passed since its last byte, not before (R170, R173). -/
theorem test_byte_gap :
    let s := rows [.vanMessageArrival [0xC5, 0]] State.reset
    s.tick.tick.van.rx.bytes = [0xC5, 0] ∧ s.tick.tick.tick.van.rx.bytes = [] ∧ s.tick.tick.tick.van.counters.incomplete = 1 := by
  decide

/-- 10: a byte on VTX is a start bit, its data bits with the least significant first, and a stop bit (R172). -/
theorem test_line_bits :
    lineBits 0x8D =
      [.start, .data true, .data false, .data true, .data true, .data false, .data false, .data false, .data true, .stop] := by
  decide

/-- 09: a pulse at sub-second 800 makes second 30,000 into 30,001, and one at 499 only realigns it. -/
theorem test_pulse_aligns :
    let c : Clock := { Clock.initial with state := .locked, day := 1231, second := 30000, sub := 800 }
    (c.align.second, c.align.sub) = (30001, 0) ∧ ({ c with sub := 499 } : Clock).align.second = 30000 := by decide

/-- 09: the second step from day 65535, second 86399, gives day 0, second 0 (R164). -/
theorem test_second_rolls_over :
    let c : Clock := { Clock.initial with day := 65535, second := 86399 }
    (c.step.day, c.step.second) = (0, 0) := by decide

/-- 12: a time field holds the clock state in bits 23 and 22 and the second of day in bits 16 to 0 (R198): LOCKED, 50,400. -/
theorem test_time_field : timeField 50400 .locked = [0x80, 0xC4, 0xE0] := by decide

/-- 12: a full record takes 49 bytes and a compact one 30 (R204). -/
theorem test_record_widths :
    ((record 1 .pending).full .pending).length = 49 ∧ ((record 1 .pending).compact .pending).length = 30 := by decide

set_option maxRecDepth 40000 in
/-- 11: HELLO of a cold start carries family code 0x0412, revision 1 and next sequence number 1 (R196). -/
theorem test_hello : State.reset.van.outbound.map (·.covered.take 7) = [[0, 22, 0x81, 0, 0x04, 0x12, 1]] := by decide

set_option maxRecDepth 40000 in
/-- The CRC of R172 over the bytes "123456789" is the published check value of its generator and initial value, 0x29B1, and that of R1
is 0x31C3. -/
theorem test_crc :
    linkCrc [0x31, 0x32, 0x33, 0x34, 0x35, 0x36, 0x37, 0x38, 0x39] = 0x29B1 ∧
      airCrc [0x31, 0x32, 0x33, 0x34, 0x35, 0x36, 0x37, 0x38, 0x39] = 0x31C3 := by decide

/-! ## Witnesses: states and operands that meet the hypotheses of each statement, clause by clause -/

theorem witness_StepRunsFrontCommand : (State.reset.withPending [.pollTake]).pending = [.pollTake] := rfl

theorem witness_EveryCommandCompletes : pinOrSupply .ppsPulse = false ∧ (supplied .dip).running = false := by decide

theorem witness_IdleStepIsOneMillisecond :
    gathering.pending = [] ∧ gathering.running = true ∧ Instr.holdTimerExpiry 0 ∈ gathering.dueRows ∧
      (supplied .dip).pending = [] ∧ Instr.vddGood ∈ (supplied .dip).dueRows ∧ (supplied .held).dueRows = [] := by decide

theorem witness_IdleStepIsOneMillisecond_start :
    let s := (active .unread .unread .opened).modSupply fun p => { p with monitor := .start, starting := some ⟨.hello, .pin, 0, 0⟩ }
    s.pending = [] ∧ s.dueRows = [] ∧ s.supply.monitor = .start ∧ s.route.state = .active ∧
      s.supply.starting = some ⟨.hello, .pin, 0, 0⟩ := by decide

theorem witness_IdleStepIsOneMillisecond_bytes :
    let hearing := State.reset.modChannel 1 fun c => { c with stream := some ⟨2, 2⟩ }
    let receiving (n : Nat) := State.reset.modVan fun v => { v with rx := .within 0xC5 [] ⟨n, 2⟩ }
    Instr.streamStopped 1 ∈ hearing.dueRows ∧ Instr.vanByteGapTimeout ∈ (receiving 2).dueRows ∧
      Instr.vanByteGapTimeout ∉ (receiving 1).dueRows := by decide

/-- Outside a start-up nothing is asked of one. -/
theorem no_start {s : State} (h : s.supply.starting = none) : s.startingHolds := fun x hx => by rw [h] at hx; cases hx

theorem witness_SettledIsKept :
    (∀ c : Cause, ((docked .align).notice c).due = false) ∧ ∃ t, step (docked .align) = .next t := by
  refine ⟨fun c => ?_, _, rfl⟩
  cases c <;> decide

theorem witness_CapacityIsKept : inCheck.withinCapacity ∧ ∃ t, step inCheck = .next t :=
  ⟨⟨no_start rfl, by decide⟩, _, rfl⟩

theorem witness_StoreOrderIsKept : uploading.store.wellOrdered ∧ ∃ t, step uploading = .next t :=
  ⟨by unfold Store.wellOrdered; decide, _, rfl⟩

theorem witness_SegmentAccountsAreKept :
    (∃ t, step inCheck = .next t) ∧ inCheck.route.countersExact ∧ inCheck.openOrderExact := by
  refine ⟨⟨_, rfl⟩, fun _ n g h => ?_, by decide, by decide, fun h => absurd rfl h, fun n => ?_⟩
  · match n with
    | 0 =>
      cases h
      exact ⟨rfl, fun st => by cases st <;> rfl⟩
    | _ + 1 => cases h
  · match n with
    | 0 => exact ⟨fun _ => ⟨_, rfl, rfl⟩, fun _ => by decide⟩
    | n + 1 => simp [inCheck, active, State.modCheck]

theorem witness_PollAccountIsKept : (sending .idle).tx.accountHolds ∧ ∃ t, step (sending .idle) = .next t := ⟨by unfold Transmitter.accountHolds; decide, _, rfl⟩

theorem witness_BlankingIsKept : (docked .align).blankingHolds ∧ ∃ t, step (docked .align) = .next t := by
  refine ⟨⟨fun k => ?_, fun k _ => ?_, by decide, by decide⟩, _, rfl⟩
  · refine ⟨?_, ?_, fun e h => ?_⟩
    · match k with | 0 | 1 | 2 | 3 => decide
    · match k with | 0 | 1 | 2 | 3 => decide
    · match k with | 0 | 1 | 2 | 3 => cases h
  · match k with | 0 | 1 | 2 | 3 => decide

theorem witness_InFlightIsKept : uploading.inFlightHolds ∧ ∃ t, step uploading = .next t :=
  ⟨⟨no_start rfl, by decide⟩, _, rfl⟩

/-- With stop 0 HEARD and its entry gathering, the readings in hand are exactly those of the HEARD stops. -/
theorem gathering_inHand : gathering.inHandHolds := by
  refine ⟨no_start rfl, fun _ => ⟨by decide, by decide, fun i => ?_⟩⟩
  match i with
  | 0 => exact ⟨fun _ => ⟨_, rfl, rfl⟩, fun _ => by decide⟩
  | 1 => simp [State.inHand, gathering, active, State.modCapture, entry, stop, State.reset, Capture.initial]
  | i + 2 => simp [State.inHand, gathering, active, State.modCapture, entry, State.reset, Capture.initial]

/-- With no stop HEARD, nothing is in hand. -/
theorem handing_inHand (f : Frame) : (handing (active .unread .missed .opened) f).inHandHolds := by
  refine ⟨no_start rfl, fun _ =>
    ⟨by simp [State.inHand, handing, active, State.modCapture, State.reset, Capture.initial], fun _ _ => rfl, fun i => ?_⟩⟩
  match i with
  | 0 | 1 => simp [State.inHand, handing, active, State.modCapture, State.reset, Capture.initial, stop]
  | i + 2 => simp [State.inHand, handing, active, State.modCapture, State.reset, Capture.initial]

theorem witness_InHandIsKept : gathering.inHandHolds ∧ ∃ t, step gathering = .next t := ⟨gathering_inHand, _, rfl⟩

theorem witness_CommandBodiesRoundTrip : commandFits (.skipStop 4095) = true := by decide

theorem witness_MessageBytesDoWhatTheRowDoes :
    rowCommand (.skipStop 9 4095) = some (.van, 9, .skipStop 4095) ∧ rowCommand (.loadEnd .dock 9) = some (.dock, 9, .loadEnd) ∧
      commandFits .loadEnd = true ∧ State.reset.van.rx.bytes = [] ∧ State.reset.dock.rx = [] := by decide

theorem witness_CheckTimeAndRate : checking.findings.movement = .backward ∧
    (caseOf 4 9950 1231 8 300 12 36000 .default).findings.movement = .wrap := by decide

theorem witness_CheckBounds :
    let c := caseOf 4 9999 1231 8 300 12 36000 .default
    4 ≤ c.static.digits ∧ c.static.digits ≤ 9 ∧ ∀ old, c.static.previous = some old → old < 10 ^ c.static.digits := by
  refine ⟨by decide, by decide, fun old h => ?_⟩
  cases h
  decide

/-- Channel 1 in a decoder state and a channel state, its mute hold and its stream watch run out. -/
def hearing (d : Decoder) (st : ChannelState) : State :=
  State.reset.modChannel 1 fun c => { c with decoder := d, state := st, muteHold := some ⟨10000, 10000⟩, stream := some ⟨2, 2⟩ }

theorem witness_AttemptBegins :
    State.reset.running = true ∧ State.reset.channels[(1 : ChannelNo)].decoder = .hunt ∧
      State.reset.channels[(1 : ChannelNo)].recent = [] ∧ State.reset.channels[(1 : ChannelNo)].carrier = true ∧ (hearing (.header ⟨false, true⟩) .active).running = true ∧
      (hearing (.header ⟨false, true⟩) .active).channels[(1 : ChannelNo)].decoder = .header ⟨false, true⟩ ∧
      (0xF1 : Byte) = ~~~14 ∧ 14 ≤ (14 : Byte).toNat ∧ (14 : Byte).toNat ≤ 30 ∧ (0xE1 : Byte) = ~~~30 ∧ (30 : Byte).toNat ≤ 30 := by
  decide

theorem witness_AttemptEnds :
    (hearing (.header ⟨true, true⟩) .active).running = true ∧ (hearing (.body ⟨true, true⟩ 14) .active).running = true ∧
      (hearing (.header ⟨true, true⟩) .active).ends (.headerComplete 1 13 0xF2) = some (1, .format) ∧
      (hearing (.body ⟨true, true⟩ 14) .active).ends (.blockComplete 1 .uncorrectable (List.replicate 14 0) 0 []) =
        some (1, .uncorrectable) ∧
      (hearing (.header ⟨true, true⟩) .active).ends (.carrierLoss 1) = some (1, .syncLoss) ∧
      (hearing (.header ⟨true, true⟩) .active).ends (.streamStopped 1) = some (1, .syncLoss) := by decide

theorem witness_ChannelEventsOutsideAttempts :
    ¬(State.reset.running = true ∧ State.reset.channels[(1 : ChannelNo)].losesCarrier = true) ∧ State.reset.running = true ∧
      State.reset.channels[(1 : ChannelNo)].decoder.inProgress = false ∧ (hearing .hunt .muted).running = true ∧
      (hearing .hunt .muted).channels[(1 : ChannelNo)].state = .muted ∧
      (hearing .hunt .muted).channels[(1 : ChannelNo)].muteHold = some ⟨10000, 10000⟩ ∧
      (hearing .hunt .muted).channels[(1 : ChannelNo)].stream = some ⟨2, 2⟩ ∧
      ((hearing .hunt .muted).modChannel 1 fun c => { c with stream := some ⟨1, 2⟩ }).channels[(1 : ChannelNo)].stream =
        some ⟨1, 2⟩ := by decide

/-- After reset a command that arrives is taken at once. -/
theorem ready_reset : State.reset.ready := by unfold State.ready; decide

theorem witness_SetChannelWrites : State.reset.ready ∧ (3 : ChannelNo).val = (3 : Byte).toNat ∧
    (3 < (4 : Byte).toNat ∧ 1 < (2 : Byte).toNat ∧ 15 < (16 : Byte).toNat ∧ 64 < (65 : Byte).toNat ∧ ¬((1 : Byte).toNat < (1 : Byte).toNat)) :=
  ⟨ready_reset, by decide⟩

theorem witness_FrameIsCounted :
    let unknown := handing (active .unread .unread .opened) (frame .reading 18 none)
    let skipped := handing (active .skipped .unread .opened) (frame .reading 16 none)
    let read := handing (active .unread .read .opened) (frame .reading 17 none)
    let f := frame .reading 18 none
    unknown.running = true ∧ unknown.capture.nextFrame 0 = some f ∧ unknown.tx.matches f = false ∧ unknown.stopFor f = none ∧
      skipped.running = true ∧ skipped.capture.nextFrame 0 = some (frame .reading 16 none) ∧
      skipped.stopFor (frame .reading 16 none) = some (0, stop 16 .skipped) ∧
      read.stopFor (frame .reading 17 none) = some (1, stop 17 .read) ∧
      isFollowup (stop 17 .read) (frame .reading 17 none) = false ∧ (unknown.countedFrame f).map (·.foreign) = some 1 ∧
      (skipped.countedFrame (frame .reading 16 none)).map (·.skipped) = some 1 ∧
      (read.countedFrame (frame .reading 17 none)).map (·.duplicate) = some 1 := by decide

theorem witness_FrameIsCounted_rest :
    let alarm : Frame := { frame .alarm 16 none with flags := { entry.union with magnet := true } }
    let late := handing (active .heard .unread .opened) (frame .reading 16 none)
    let third := handing ((active .read .unread .opened).modRoute fun r => { r with
      stops := r.stops.modify 0 fun p => { p with recordCount := 2 } }) alarm
    let unloaded := handing State.reset (frame .reading 16 none)
    (late.countedFrame (frame .reading 16 none)).map (·.lateCopy) = some 1 ∧
      (third.countedFrame alarm).map (·.beyondLimit) = some 1 ∧
      (unloaded.countedFrame (frame .reading 16 none)).map (·.noRoute) = some 1 ∧ late.tx.matches (frame .reading 16 none) = false ∧
      third.tx.matches alarm = false ∧ unloaded.tx.matches (frame .reading 16 none) = false := by decide

theorem witness_FrameOpensEntry :
    let s := handing (active .unread .missed .opened) (frame .reading 17 none)
    s.inHandHolds ∧ s.running = true ∧ s.capture.nextFrame 0 = some (frame .reading 17 none) ∧ s.route.state = .active ∧
      s.stopFor (frame .reading 17 none) = some (1, stop 17 .missed) ∧ (stop 17 .missed).status = .missed :=
  ⟨handing_inHand _, by decide⟩

theorem witness_CopyJoinsEntry :
    let s := handing gathering (frame .reading 16 none)
    s.running = true ∧ gathering.inHandHolds ∧ s.inHand = gathering.inHand ∧ s.route = gathering.route ∧
      s.capture.nextFrame 0 = some (frame .reading 16 none) ∧ s.route.state = .active ∧
      s.stopFor (frame .reading 16 none) = some (0, stop 16 .heard) ∧ (stop 16 .heard).status = .heard ∧
      s.capture.gatheringFor 0 = some entry := ⟨by decide, gathering_inHand, by decide⟩

theorem witness_ReplySatisfiesPoll :
    let f := frame .reply 16 (some 17)
    let s := handing (sending (.listen poll 17 true ⟨0, 400⟩)) f
    s.running = true ∧ s.capture.nextFrame 0 = some f ∧ s.tx.state = .listen poll 17 true ⟨0, 400⟩ ∧ f.kind = .reply ∧
      f.meterId = poll.meterId ∧ f.token = some 17 := by decide

theorem witness_ReplySatisfiesPoll_counted :
    let f := frame .reply 16 (some 17)
    let s := handing ((active .skipped .unread .opened).modTx fun t => { t with state := .listen poll 17 true ⟨0, 400⟩ }) f
    s.running = true ∧ s.capture.nextFrame 0 = some f ∧ s.tx.state = .listen poll 17 true ⟨0, 400⟩ ∧
      (s.countedFrame f).map (·.skipped) = some 1 ∧ s.isForeign f = false := by decide

theorem witness_ExpiryFinalisesEntry :
    gathering.running = true ∧ gathering.inHandHolds ∧ gathering.capture.gatheringFor 0 = some entry ∧
      entry.hold.limit ≤ entry.hold.elapsed ∧ entry.gather.limit ≤ entry.gather.elapsed :=
  ⟨by decide, gathering_inHand, by decide⟩

theorem witness_CheckStartTakesHead :
    let s := (active .heard .unread .opened).modCapture fun c => { c with queue := [checking.entry] }
    s.running = true ∧ s.check = none ∧ s.capture.queue = [checking.entry] ∧
      s.route.stops[checking.entry.stop]? = some (stop 16 .heard) ∧ (stop 16 .heard).static = some (fields 16) := by decide

theorem witness_CompletionAppends :
    inCheck.running = true ∧ inCheck.check = some checking ∧ inCheck.route.stops[checking.entry.stop]? = some (stop 16 .heard) ∧
      inCheck.store.nextSequence ≠ 4294967295 ∧ inCheck.store.records.length < 8192 := by decide

theorem witness_CompletionAppends_uploads :
    let s := inCheck.modDock fun d => { d with link := .ready, wanted := some true, blockSize := some 1 }
    s.running = true ∧ s.check = some checking ∧ s.route.stops[checking.entry.stop]? = some (stop 16 .heard) ∧
      s.store.nextSequence ≠ 4294967295 ∧ s.store.records.length < 8192 ∧ s.dock.link = .ready ∧ s.dock.wanted = some true ∧
      s.dock.suspended = false ∧ s.dock.blockSize = some (0 + 1) := by decide

theorem witness_CompletionAppends_full :
    let s := inCheck.modStore fun k => { k with records := List.replicate 8192 (record 1 .uploaded), nextSequence := 8193 }
    s.running = true ∧ s.check = some checking ∧ s.route.stops[checking.entry.stop]? = some (stop 16 .heard) ∧
      s.store.nextSequence ≠ 4294967295 ∧ 8192 ≤ s.store.records.length ∧
      s.store.records.head?.all (·.upload = .uploaded) = true :=
  ⟨rfl, rfl, rfl, by decide, by simp only [State.modStore, List.length_replicate, Nat.le_refl], rfl⟩

theorem witness_CompletionDiscards :
    let s := inCheck.modStore fun k => { k with nextSequence := 4294967295 }
    s.running = true ∧ s.check = some checking ∧ s.route.stops[checking.entry.stop]? = some (stop 16 .heard) ∧
      s.store.nextSequence = 4294967295 := by decide

/-- The route table LOADING by a link, its two stops written or not. -/
def loading (link : Link) (written : Bool) : State :=
  let s := (docked .ready).modRoute fun r =>
    { r with
      state := .loading, owner := some link, loadedBy := some link, shiftDay := 1231, segments := [Segment.loadDefault]
      stops := if written then [stop 16 .unread, stop 17 .unread] else [Stop.loadDefault, Stop.loadDefault] }
  s

/-- A stop record that passes every test of R25. -/
def soundRecord : StopRecord :=
  { meterId := 16, segment := 0, digits := 9, kindTag := 1, previous := 999999999, previousPresent := true, pollable := true,
    profile := 7, previousDay := 1231, previousHour := 23, expected := 2000 }

theorem witness_LoadCommandsAct :
    (docked .ready).linkReady .van ∧ (docked .ready).linkReady .dock ∧ (docked .ready).route.state = .empty ∧
      (4096 : Word16).toNat ≤ 4096 ∧ (256 : Word16).toNat ≤ 256 ∧
      (loading .dock true).linkReady .dock ∧ (loading .dock true).linkReady .van ∧ (loading .dock true).route.state = .loading ∧
      (loading .dock true).route.owner = some .dock ∧ (0 : Byte).toNat < (loading .dock true).route.segments.length ∧
      (10 ≤ (3600 : Word16).toNat ∧ (3600 : Word16).toNat ≤ 3600) ∧
      (∀ p ∈ (loading .dock true).route.stops, p.static.isSome = true) ∧
      ((loading .dock true).route.stops.map Stop.meterId).Nodup := by
  simp only [State.linkReady, State.ready, State.dockReady]
  decide

theorem witness_LoadCommandsAct_clear :
    let s := (active .read .read .closed).modRoute fun r => { r with state := .retired }
    s.ready ∧ s.route.state = .retired ∧ s.inHand = [] ∧ s.tx.state.onAir = false := by
  simp only [State.ready]
  decide

theorem witness_LoadCommandsAct_refusals :
    let twice := (loading .dock true).modRoute fun r => { r with stops := [stop 16 .unread, stop 16 .unread] }
    let held := gathering.modRoute fun r => { r with state := .retired }
    let aired := (sending (.keyed poll 17 false ⟨0, 48⟩)).modRoute fun r => { r with state := .retired }
    (loading .dock false).linkReady .dock ∧ (loading .dock false).route.owner = some .dock ∧
      (loading .dock false).route.stops[0]?.map (·.static) = some none ∧ twice.linkReady .dock ∧
      (∀ p ∈ twice.route.stops, p.static.isSome = true) ∧
      (0 < 1 ∧ 1 < (twice.route.stops.map Stop.meterId).length ∧
        (twice.route.stops.map Stop.meterId)[0]? = (twice.route.stops.map Stop.meterId)[1]?) ∧
      (loading .dock true).route.segments.length ≤ (1 : Byte).toNat ∧ ¬(10 ≤ (9 : Word16).toNat) ∧ ¬((3601 : Word16).toNat ≤ 3600) ∧
      1 < (2 : Byte).toNat ∧ ¬(1 ≤ (0 : Word16).toNat) ∧ ¬((4097 : Word16).toNat ≤ 4096) ∧ ¬((257 : Word16).toNat ≤ 256) ∧
      held.ready ∧ held.route.state = .retired ∧ held.inHand ≠ [] ∧ aired.ready ∧ aired.inHand = [] ∧
      aired.tx.state.onAir = true := by
  simp only [State.linkReady, State.ready, State.dockReady]
  decide

theorem witness_LoadCommandsAct_first (l e : Nat) (h : e < l ∧ l < [(16 : Word32), 16].length) : 1 < l ∨ 1 = l ∧ 0 ≤ e := by
  simp only [List.length_cons, List.length_nil] at h
  omega

theorem witness_LoadStopsWritesAllOrNone :
    (loading .van false).linkReady .van ∧ (loading .van false).route.state = .loading ∧
      (loading .van false).route.owner = some .van ∧ 1 ≤ [soundRecord].length ∧ [soundRecord].length ≤ 16 ∧
      (1 < (loading .van false).route.stops.length ∧ soundRecord.segment.toNat < (loading .van false).route.segments.length ∧
        soundRecord.previous.toNat < 10 ^ soundRecord.digits.toNat ∧
        soundRecord.previousDay.toNat ≤ (loading .van false).route.shiftDay) ∧
      ¬(2 < (loading .van false).route.stops.length) ∧ (loading .van false).route.stops.length ≤ 2 ∧
      (loading .van false).route.segments.length ≤ (1 : Byte).toNat ∧ (3 : Byte).toNat < 4 ∧ 9 < (10 : Byte).toNat ∧
      (loading .van false).route.shiftDay < (1232 : Word16).toNat ∧ 23 < (24 : Byte).toNat := by
  simp only [State.linkReady, State.ready]
  decide

theorem witness_ActivationCountsAndIndexes :
    let s := (loading .van true).modRoute fun r => { r with state := .activating }
    s.running = true ∧ s.route.state = .activating ∧ (s.route.stops.map Stop.meterId).Nodup := by decide

/-- The open order of `gathering` holds its one OPEN segment. -/
theorem gathering_openOrder : gathering.openOrderExact := by
  refine ⟨by decide, by decide, fun h => absurd rfl h, fun n => ?_⟩
  match n with
  | 0 => exact ⟨fun _ => ⟨_, rfl, rfl⟩, fun _ => by decide⟩
  | n + 1 => simp [gathering, active, State.modCapture]

theorem witness_RetireRouteEndsTheShift :
    gathering.ready ∧ gathering.route.state = .active ∧ gathering.inHandHolds ∧ gathering.openOrderExact ∧
      gathering.tracker.openOrder = [0] ∧ (active .read .read .closed).tracker.openOrder = [] :=
  ⟨by unfold State.ready; decide, rfl, gathering_inHand, gathering_openOrder, rfl, rfl⟩

theorem witness_SettingsAreWritten :
    (loading .dock false).linkReady .dock ∧ (loading .dock false).route.state = .loading ∧
      (loading .dock false).route.owner = some .dock ∧ (docked .ready).linkReady .van ∧
      classOf 2 = some .tamper ∧ reportOf 2 = some .urgent ∧ (7 : Byte).toNat ≤ 7 ∧ (9999 : Word16).toNat ≤ 9999 ∧
      (8192 : Word16).toNat ≤ 8192 ∧ (2000 : Word16).toNat ≤ 2000 := by
  simp only [State.linkReady, State.ready, State.dockReady]
  decide

theorem witness_SettingsAreWritten_refusals :
    7 < (8 : Byte).toNat ∧ 9999 < (10000 : Word16).toNat ∧ 15 < (16 : Byte).toNat ∧ classOf 3 = none ∧ reportOf 3 = none ∧
      1 < (2 : Byte).toNat ∧ ((0 : Byte).toNat < 1 ∧ 8 < (9 : Byte).toNat) ∧ ((1 : Byte).toNat < 2 ∧ 60 < (61 : Byte).toNat) ∧
      ((49 : Word16).toNat < 50 ∧ 2000 < (2001 : Word16).toNat) ∧ ((0 : Word16).toNat < 1 ∧ 8192 < (8193 : Word16).toNat) := by decide

theorem witness_LoadOwnershipIsKept :
    (loading .dock false).linkReady .van ∧ (loading .van false).linkReady .dock ∧ (loading .dock false).route.state = .loading ∧
      (loading .dock false).route.owner ≠ some .van ∧ (loading .van false).route.owner ≠ some .dock ∧
      (docked .ready).linkReady .dock ∧ (docked .ready).route.state ≠ .loading := by
  simp only [State.linkReady, State.ready, State.dockReady]
  decide

/-- The state of `active` is ready for a command. -/
theorem ready_active (a b : Status) (g : SegmentState) : (active a b g).ready := ⟨rfl, rfl, by show 1 < 64; decide, rfl⟩

theorem witness_OpenSegmentActs :
    let s := active .unread .unread .pending
    let full := s.modTracker fun t => { t with openOrder := [1, 2, 3, 4] }
    s.ready ∧ full.ready ∧ s.route.state = .active ∧
      s.route.segments[(0 : Byte).toNat]?.map (·.state) = some .pending ∧ s.tracker.openOrder.length < 4 ∧
      0 ∉ s.tracker.openOrder ∧ 4 ≤ full.tracker.openOrder.length ∧
      (active .unread .unread .opened).route.segments[0]?.map (·.state) = some .opened ∧
      State.reset.route.state ≠ .active ∧ s.route.segments.length ≤ (1 : Byte).toNat := by
  refine ⟨ready_active .unread .unread .pending, ready_active .unread .unread .pending, ?_⟩
  decide

/-- The segment of `gathering` with a dwell timer run out. -/
def dwelt (mode : DwellMode) : State :=
  gathering.modSegment 0 fun g => { g with dwellLimit := 10, dwellElapsed := 10000, dwellMode := mode }

theorem dwelt_inHand (mode : DwellMode) : (dwelt mode).inHandHolds := gathering_inHand

theorem witness_SegmentsClose :
    (dwelt .close).inHandHolds ∧ (dwelt .warn).inHandHolds ∧ gathering.ready ∧ (dwelt .close).running = true ∧
      (dwelt .close).route.state = .active ∧
      (dwelt .close).route.segments[0]?.map (fun g => (g.state, g.dwellLimit, g.dwellElapsed, g.dwellMode)) =
        some (.opened, 10, 10000, .close) ∧
      (dwelt .warn).route.segments[0]?.map (·.dwellMode) = some .warn ∧ 0 = (0 : Byte).toNat ∧
      State.reset.route.state ≠ .active ∧ gathering.route.segments.length ≤ (1 : Byte).toNat ∧
      (active .unread .unread .pending).route.segments[0]?.map (·.state) = some .pending ∧
      (active .unread .unread .closed).route.segments[0]?.map (·.state) = some .closed ∧
      (gathering.capture.heard.filter (·.final.isNone)).Pairwise
        (fun x y => x.created ≠ y.created ∧ (y.created - x.created).toNat < 2147483648) := by
  refine ⟨dwelt_inHand _, dwelt_inHand _, ?_⟩
  simp only [State.ready]
  decide

theorem witness_SkipAndUnskip :
    (∀ a b g, (active a b g).ready) ∧ (active .missed .skipped .closed).route.state = .active ∧
      (active .missed .skipped .closed).route.stops[(0 : Word16).toNat]? = some (stop 16 .missed) ∧
      (active .missed .skipped .closed).route.stops[(1 : Word16).toNat]? = some (stop 17 .skipped) ∧
      (active .read .unread .opened).route.stops[(0 : Word16).toNat]? = some (stop 16 .read) ∧
      State.reset.route.state ≠ .active ∧ (active .read .unread .opened).route.stops.length ≤ (2 : Word16).toNat :=
  ⟨ready_active, by decide⟩

theorem witness_RefillScanFindsCandidates :
    (active .unread .unread .opened).tx.queue.length ≤ 32 ∧ 0 ∈ (active .unread .unread .opened).scanOrder := by decide

theorem witness_PollGoesOnTheAir :
    let queued := (sending .idle).modTx fun t => { t with queue := [poll] }
    let clearing := sending (.clearing poll 5 ⟨5, 250⟩)
    let keyed := sending (.keyed poll 17 false ⟨48, 48⟩)
    queued.running = true ∧ queued.tx.state = .idle ∧ queued.tx.inhibit = false ∧ queued.tx.queue = [poll] ∧
      clearing.running = true ∧ clearing.tx.state = .clearing poll 5 ⟨5, 250⟩ ∧
      clearing.channels[(0 : ChannelNo)].decoder.inProgress = false ∧ clearing.channels[(0 : ChannelNo)].entry.cdUsed = false ∧
      keyed.running = true ∧ keyed.tx.state = .keyed poll 17 false ⟨48, 48⟩ := by decide

theorem witness_PollReturnsOrFails :
    let clearing := sending (.clearing poll 0 ⟨250, 250⟩)
    let listening := sending (.listen poll 17 false ⟨400, 400⟩)
    clearing.running = true ∧ clearing.tx.state = .clearing poll 0 ⟨250, 250⟩ ∧ listening.running = true ∧
      listening.tx.state = .listen poll 17 false ⟨400, 400⟩ ∧ listening.route.stops[poll.stop]? = some (stop 16 .unread) := by decide

theorem witness_PollCommandsAct :
    let s := active .unread .unread .opened
    let named := sending (.keyed poll 17 false ⟨0, 48⟩)
    s.ready ∧ named.ready ∧ s.route.state = .active ∧ s.route.stops[(0 : Word16).toNat]? = some (stop 16 .unread) ∧
      s.tx.names 0 = false ∧ named.route.state = .active ∧ named.tx.names 0 = true ∧ State.reset.route.state ≠ .active ∧
      s.route.stops.length ≤ (2 : Word16).toNat :=
  ⟨ready_active .unread .unread .opened, ready_active .unread .unread .opened, by decide⟩

theorem witness_InhibitAndEnable : (sending (.clearing poll 5 ⟨5, 250⟩)).ready := by unfold State.ready; decide

theorem witness_DockSignalIsDerived :
    State.reset.running = true ∧ (supplied .dip).running = false ∧ State.reset.ready ∧ (1 : Byte).toNat ≤ 1 ∧
      1 ≤ (1 : Byte).toNat ∧ ¬(1 ≤ (0 : Byte).toNat) ∧ 1 < (2 : Byte).toNat := by
  simp only [State.ready]
  decide

theorem witness_DockLinkGoesDown :
    let s := (docked .ready).modDock fun d => { d with watch := some ⟨10, 10⟩ }
    let p := (docked .ready).modDock fun d => { d with dsdPin := true }
    s.running = true ∧ s.dock.link ≠ .down ∧ s.dock.signalPresent = false ∧ s.dock.watch = some ⟨10, 10⟩ ∧ s.ready ∧
      State.reset.ready ∧ State.reset.dock.link = .down ∧ p.ready ∧ p.dock.link ≠ .down ∧ p.dock.signalPresent = true := by
  simp only [State.ready]
  decide

theorem witness_PagesAreExchanged :
    (docked .align).running = true ∧ (docked .align).dock.link = .align ∧
      (exchanging (.abilityWait ⟨0, 1000⟩)).dock.link = .exchange ∧
      (exchanging (.abilityWait ⟨0, 1000⟩)).dock.exchange = some (.abilityWait ⟨0, 1000⟩) ∧
      (2 : Byte).getLsbD 1 = true ∧ (4 : Byte).getLsbD 0 = false ∧ (4 : Byte).getLsbD 1 = false ∧ (1 : Byte) ≠ 0 ∧
      (exchanging (.routeWait ⟨0, 1000⟩)).dock.exchange = some (.routeWait ⟨0, 1000⟩) ∧ (1 : Byte).toNat ≤ 1 ∧
      (exchanging (.routeWait ⟨0, 1000⟩)).dock.blockSize = some (31 + 1) ∧
      (exchanging (.abilitySending none)).dock.exchange = some (.abilitySending none) ∧ (docked .ready).dock.link = .ready := by decide

theorem witness_PagesAreExchanged_early :
    let asks := exchanging (.routeSending none)
    let begun := asks.modDock fun d => { d with sending := some ⟨.routePage, ⟨0xA1, 0, []⟩⟩ }
    1 < (2 : Byte).toNat ∧ asks.running = true ∧ asks.dock.link = .exchange ∧ asks.dock.exchange = some (.routeSending none) ∧
      asks.dock.sending = none ∧ begun.running = true ∧ begun.dock.link = .exchange ∧
      begun.dock.exchange = some (.routeSending none) ∧ begun.dock.sending = some ⟨.routePage, ⟨0xA1, 0, []⟩⟩ := by decide

theorem witness_ErrorsAndTimeoutsLeaveTheLink :
    let s := (docked .ready).modDock fun d => { d with windowErrors := 15 }
    let x := exchanging (.routeWait ⟨1000, 1000⟩)
    s.running = true ∧ s.dock.link.inSession = true ∧ s.dock.settings.threshold ≤ s.dock.windowErrors + 1 ∧
      (docked .fault).dock.link = .fault ∧ x.running = true ∧ x.dock.link = .exchange ∧
      x.dock.exchange = some (.routeWait ⟨1000, 1000⟩) := by decide

theorem witness_SendingEnds :
    let page : AbilityPage := ⟨1, 24, 7, 1⟩
    let depot : DepotPage := ⟨1, 12⟩
    let out (r : DockRole) (s : State) := s.modDock fun d => { d with sending := some ⟨r, ⟨0xA0, 0, []⟩⟩ }
    let h : Held := ⟨0x04, 3, some .loadEnd⟩
    let bad : Held := ⟨0x04, 3, none⟩
    let other : Held := ⟨0x2A, 3, some .txEnable⟩
    let held := (out .reply (docked .ready)).modDock fun d => { d with held := [h] }
    (out .uploadEnd (docked .ready)).running = true ∧
      (out .uploadEnd (docked .ready)).dock.sending = some ⟨.uploadEnd, ⟨0xA0, 0, []⟩⟩ ∧
      (out .uploadEnd (docked .ready)).dock.held = [] ∧ (out .uploadEnd (docked .ready)).dock.exchange = none ∧
      (out .abilityPage (exchanging (.abilitySending (some page)))).dock.exchange = some (.abilitySending (some page)) ∧
      (out .routePage (exchanging (.routeSending (some depot)))).dock.exchange = some (.routeSending (some depot)) ∧
      (out .routePage (exchanging (.routeSending (some depot)))).dock.reply = none ∧
      (out .routePage (exchanging (.routeSending (some depot)))).dock.waiting = [] ∧ depot.wanted.toNat ≤ 1 ∧
      held.dock.held = [h] ∧ held.dock.link.inSession = true ∧ held.dock.reply = none ∧ held.dock.waiting = [] ∧
      rowCommand (.loadEnd .dock 3) = some (.dock, h.tag, .loadEnd) ∧ h.kind = commandKind .loadEnd ∧
      h.command = (if commandFits .loadEnd = true then some .loadEnd else none) ∧ bad.command = none ∧
      other.command = some .txEnable ∧ dockTakes .txEnable = false := by decide

theorem witness_SendingEnds_block :
    let h : Held := ⟨0x04, 3, some .loadEnd⟩
    let w : DockOut := ⟨.block, ⟨0xA8, 0, []⟩⟩
    let s := (docked .uploading).modDock fun d => { d with sending := some ⟨.reply, ⟨0x80, 0, []⟩⟩, held := [h], waiting := [w] }
    s.running = true ∧ s.dock.held = [h] ∧ s.dock.reply = none ∧ s.dock.waiting = [w] ∧ w.role ≠ .reply ∧
      s.dock.link.inSession = true := by decide

theorem witness_BlocksAreAcknowledged :
    let last := uploading.modStore fun k => { k with records := [record 1 .inFlight] }
    uploading.running = true ∧ uploading.dock.link.inSession = true ∧
      uploading.dock.outstanding = some ⟨1, 1, 1, some ⟨2000, 2000⟩⟩ ∧ (0 : Byte) = uploading.dock.blockNumber ∧
      uploading.store.pendingRecords ≠ [] ∧ uploading.dock.blockSize = some (0 + 1) ∧ last.store.pendingRecords = [] ∧
      nakReasonOf 1 = some .format ∧ nakReasonOf 2 = some .storage ∧ nakReasonOf 3 = none ∧
      (1 : Byte) ≠ uploading.dock.blockNumber ∧ (docked .ready).dock.link.inSession = true ∧
      (docked .ready).dock.outstanding = none := by decide

theorem witness_UploadTimersExpire :
    let delayed := uploading.modDock fun d => { d with outstanding := none, resend := some ⟨1000, 1000⟩ }
    delayed.running = true ∧ delayed.dock.link = .uploading ∧ delayed.dock.resend = some ⟨1000, 1000⟩ ∧
      delayed.store.pendingRecords ≠ [] ∧ delayed.dock.blockSize = some (0 + 1) ∧ uploading.running = true ∧
      uploading.dock.link = .uploading ∧ uploading.dock.outstanding = some ⟨1, 1, 1, some ⟨2000, 2000⟩⟩ := by decide

set_option maxRecDepth 40000 in
theorem witness_DepotMessagesAct :
    (docked .ready).running = true ∧ (docked .ready).dock.link.inSession = true ∧ (docked .ready).dock.rx = [] ∧
      isCommandKind 0x99 = false ∧ dockArrivalOf ⟨0x99, 0, []⟩ = none ∧ (0xC5 : Byte) ∉ ([0, 1] : List Byte) ∧
      (ofBytes [0, 1] < 2 ∧ 1026 < ofBytes [4, 3]) ∧ (0xC5 : Byte) ∉ ([0, 2] ++ [0xAA, 0] ++ [0, 0] : List Byte) ∧
      ([0xAA, 0] : List Byte).length = ofBytes [0, 2] ∧ ofBytes [0, 0] ≠ (linkCrc ([0, 2] ++ [0xAA, 0])).toNat ∧
      ([0xAA] : List Byte).length < ofBytes [0, 2] ∧ (docked .fault).dock.link = .fault := by decide

theorem witness_DepotMessagesAct_settled : (docked .ready).settled ∧ State.reset.settled :=
  ⟨.inl fun c => by cases c <;> decide, .inl fun c => by cases c <;> decide⟩

theorem witness_DepotMessagesAct_commands :
    let h : Held := ⟨0x04, 3, some .loadEnd⟩
    let s (n : Nat) (busy : Bool) := (docked .ready).modDock fun d => { d with
      held := List.replicate n h, reply := if busy then some ⟨0x80, 0, []⟩ else none }
    rowCommand (.loadEnd .dock 3) = some (.dock, 3, .loadEnd) ∧ (docked .exchange).dock.link = .exchange ∧
      4 ≤ (s 4 true).dock.held.length ∧ (s 3 true).dock.held.length < 4 ∧ (s 3 true).dock.link.inSession = true ∧
      (s 3 true).dock.reply.isSome = true ∧ (s 0 false).dockReady ∧ (s 0 false).dock.rx = [] ∧
      (isCommandKind 0x2A = true ∧ commandOf 0x2A [1] = none) ∧ commandOf 0x2A [] = some .txEnable ∧ dockTakes .txEnable = false := by
  simp only [State.dockReady]
  decide

theorem witness_ClockKeepsTime :
    let s := State.reset.modClock fun c =>
      { c with state := .locked, sub := 999, stepDue := true, watchPresent := true, sincePulse := some 2500, second := 86399, day := 65535 }
    s.running = true ∧ s.ready ∧ s.clock.second ≤ 86399 ∧ s.clock.day ≤ 65535 ∧ s.clock.watchPresent = true ∧
      s.clock.sincePulse = some 2500 ∧ s.clock.state ≠ .unset ∧ s.clock.stepDue = true ∧ (86399 : Word24).toNat ≤ 86399 ∧
      86399 < (86400 : Word24).toNat := by
  simp only [State.ready]
  decide

set_option maxRecDepth 40000 in
theorem witness_ReceivedBytesAreJudged :
    State.reset.running = true ∧ State.reset.van.rx.bytes = [] ∧ (0xC5 : Byte) ∉ ([0, 1] : List Byte) ∧
      (ofBytes [0, 1] < 2 ∧ 1026 < ofBytes [4, 3]) ∧ (0xC5 : Byte) ∉ ([0, 2] ++ [0x2A, 7] ++ [0, 0] : List Byte) ∧
      ([0x2A, 7] : List Byte).length = ofBytes [0, 2] ∧ ofBytes [0, 0] ≠ (linkCrc ([0, 2] ++ [0x2A, 7])).toNat ∧
      ((⟨2, 2⟩ : Timer).limit ≤ (⟨2, 2⟩ : Timer).elapsed ∧ State.reset.van.rx.gap.elapsed < State.reset.van.rx.gap.limit) ∧
      ([0x2A] : List Byte).length < ofBytes [0, 2] ∧ isCommandKind 0xA0 = false ∧ isCommandKind 0x2A = true ∧
      commandOf 0x2A [1] = none := by decide

theorem witness_ReceivedBytesAreJudged_gap :
    let s := State.reset.modVan fun v => { v with rx := .within 0xC5 [0] ⟨2, 2⟩ }
    s.running = true ∧ s.van.rx.gap.limit ≤ s.van.rx.gap.elapsed ∧ s.van.rx.bytes = [0xC5, 0] := by decide

theorem witness_ReceivedBytesAreJudged_hold :
    State.reset.ready ∧ 4 ≤ (State.reset.modVan fun v => { v with hold := List.replicate 4 ⟨0x2A, 0, none⟩ }).van.hold.length :=
  ⟨ready_reset, by decide⟩

theorem witness_ReceivedBytesAreJudged_waits :
    let full := State.reset.modVan fun v => { v with outbound := List.replicate 64 coldHello }
    let m : Message := ⟨0x2A, 5, []⟩
    full.running = true ∧ full.van.rx.bytes = [] ∧ full.van.hold.length < 4 ∧ 64 ≤ full.van.outbound.length ∧
      m.body.length ≤ 1024 ∧ isCommandKind m.kind = true := by decide

theorem witness_OutboundQueueMoves :
    let held : Held := ⟨0x2A, 0, some .txEnable⟩
    let waiting := State.reset.modVan fun v => { v with hold := [held] }
    let full := (State.reset.modVan fun v => { v with outbound := List.replicate 64 coldHello }).occur .loadDone [1]
    let resetting := State.reset.modVan fun v => { v with resetReply := some 0 }
    State.reset.running = true ∧ State.reset.van.outbound = [coldHello] ∧ State.reset.van.resetReply ≠ some 0 ∧
      State.reset.van.hold = [] ∧ full.van.outbound.length = 64 ∧
      (full.notice .loadDone).due = true ∧ waiting.van.hold = [held] ∧ waiting.van.resetReply = none ∧
      resetting.van.outbound = [coldHello] ∧ resetting.van.resetReply = some 0 ∧
      rowCommand (.txEnable 5) = some (.van, 5, .txEnable) ∧ resetting.van.resetReply.isSome = true ∧
      resetting.van.hold.length < 4 ∧ 64 ≤ full.van.outbound.length ∧ full.van.hold.length < 4 ∧
      rowCommand (.txEnable 0) = some (.van, held.tag, .txEnable) ∧ held.kind = commandKind .txEnable ∧
      held.command = (if commandFits .txEnable = true then some .txEnable else none) := by decide

theorem witness_NoticesAreKept :
    let pulsing (p : AttnPhase) := State.reset.modVan fun v => { v with attnPhase := p, attnMode := .pulse }
    State.reset.ready ∧ State.reset.van.outbound.length ≤ 50 ∧ (∀ c : Cause, (State.reset.notice c).due = false) ∧
      (1 : Byte).toNat ≤ 1 ∧ 2 ≤ (2 : Byte).toNat ∧ (∀ p (c : Cause), ((pulsing p).notice c).due = false) ∧
      (pulsing .high).running = true ∧ (pulsing .high).van.attnPhase = .high ∧ (pulsing .gap).van.attnPhase = .gap := by
  refine ⟨ready_reset, by decide, fun c => ?_, by decide, by decide, fun p c => ?_, by decide⟩ <;> cases c <;> (try cases p) <;> decide

theorem witness_TablesAreRead : (active .read .missed .closed).ready := ready_active .read .missed .closed

theorem witness_StatusAndCounters : State.reset.ready ∧ (1 : Byte).toNat = (0 : ChannelNo).val + 1 ∧
    (4 : Byte).toNat = (3 : ChannelNo).val + 1 ∧ 11 ≤ (11 : Byte).toNat ∧ 13 ≤ (13 : Byte).toNat := ⟨ready_reset, by decide⟩

theorem witness_SupplyMonitorMoves :
    (supplied .run).supply.monitor = .run ∧ (supplied .start).supply.monitor = .start ∧ (supplied .held).supply.monitor = .held ∧
      (supplied .dip).supply.monitor = .dip ∧ (supplied .off).supply.monitor = .off ∧
      (supplied .off).supply.goodCount = some ⟨20, 20⟩ ∧
      ¬((supplied .held).supply.monitor = .dip ∨ (supplied .held).supply.monitor = .off) := by decide

theorem witness_StartUpPutsInOrder :
    let retained := gathering.modSupply fun p => { p with monitor := .start }
    let cold := retained.modSupply fun p => { p with markerValid := false }
    let load := (loading .van false).modSupply fun p => { p with monitor := .start }
    retained.supply.monitor = .start ∧ retained.supply.starting = none ∧ retained.supply.markerValid = true ∧
      retained.route.state = .active ∧ (retained.route.stops.map Stop.meterId).Nodup ∧ cold.supply.monitor = .start ∧
      cold.supply.markerValid = false ∧ load.supply.monitor = .start ∧ load.route.state = .loading ∧
      (retained.dock.dsdPin ≠ retained.dock.settings.polarityHigh ∧ retained.dock.settings.detectUsed = true) ∧
      ((supplied .start).route.state = .empty → (supplied .start).route.stops = [] ∧ (supplied .start).route.segments = []) := by
  decide

end Sys2Proof.Tests
end

namespace Sys2Proof.Machine

section Keyed
variable (s : State)

/-! ## What leaves the transmitter keyed or unkeyed as it is -/

@[simp] theorem State.pushPoll_txState (p : PollEntry) : (s.pushPoll p).tx.state = s.tx.state := rfl

@[simp] theorem State.scanStop_txState (i : Nat) : (s.scanStop i).tx.state = s.tx.state := by
  unfold State.scanStop
  split <;> simp

@[simp] theorem State.refillScan_txState : s.refillScan.tx.state = s.tx.state :=
  foldl_keeps (fun s : State => s.tx.state) State.scanStop (fun s i => s.scanStop_txState i) _ s

@[simp] theorem State.scanIf_txState (called : Bool) : (s.scanIf called).tx.state = s.tx.state := by
  unfold State.scanIf
  split <;> simp

/-- A removal withdraws at most a poll in CLEARING (R130). -/
@[simp] theorem State.dropPolls_keyed (named : Nat → Bool) :
    (s.dropPolls named).tx.state.isKeyed = s.tx.state.isKeyed := by
  simp only [State.dropPolls, State.modTx_tx]
  cases s.tx.state with
  | clearing p g w => dsimp only; split <;> rfl
  | _ => rfl

@[simp] theorem State.removePolls_keyed (named : Nat → Bool) :
    (s.removePolls named).tx.state.isKeyed = s.tx.state.isKeyed := by simp [State.removePolls]

/-- The transmitter is IDLE after `txIdle` whatever it was. -/
@[simp] theorem State.txIdle_keyed (f : Transmitter → Transmitter) : (s.txIdle f).tx.state.isKeyed = false := by
  simp [State.txIdle, TxState.isKeyed]

@[simp] theorem State.satisfyPoll_keyed : s.satisfyPoll.tx.state.isKeyed = false := by
  simp [State.satisfyPoll, TxState.isKeyed]

/-- A reply match needs the listen window (R135). -/
theorem Transmitter.not_keyed_of_matches {t : Transmitter} {f : Frame} (h : t.matches f = true) :
    t.state.isKeyed = false := by
  unfold Transmitter.matches at h
  cases hs : t.state <;> simp_all [TxState.isKeyed]

@[simp] theorem State.closeRule_keyed (n : Nat) (cause : CloseCause) :
    (s.closeRule n cause).tx.state.isKeyed = s.tx.state.isKeyed := by
  simp [State.closeRule, foldl_keeps (fun s : State => s.tx)]

@[simp] theorem State.openEntry_keyed (i : Nat) (p : Status) (f : Frame) (m u : Bool) :
    (s.openEntry i p f m u).tx.state.isKeyed = s.tx.state.isKeyed := by simp [State.openEntry]

@[simp] theorem State.openOrEvict_keyed (i : Nat) (p : Status) (f : Frame) (m u : Bool) :
    (s.openOrEvict i p f m u).tx.state.isKeyed = s.tx.state.isKeyed := by
  unfold State.openOrEvict
  dsimp only
  repeat' split
  all_goals simp

@[simp] theorem State.settledFrame_keyed (i : Nat) (p : Stop) (f : Frame) (m : Bool) :
    (s.settledFrame i p f m).tx.state.isKeyed = s.tx.state.isKeyed := by
  unfold State.settledFrame
  repeat' split
  all_goals simp

@[simp] theorem State.stopFrame_keyed (i : Nat) (p : Stop) (f : Frame) (m : Bool) :
    (s.stopFrame i p f m).tx.state.isKeyed = s.tx.state.isKeyed := by
  unfold State.stopFrame
  split <;> simp

@[simp] theorem State.classify_keyed (f : Frame) (m : Bool) :
    (s.classify f m).tx.state.isKeyed = s.tx.state.isKeyed := by
  unfold State.classify
  repeat' split
  all_goals simp

@[simp] theorem State.offerRecheck_keyed (i : Nat) :
    (s.offerRecheck i).tx.state.isKeyed = s.tx.state.isKeyed := by
  unfold State.offerRecheck
  repeat' split
  all_goals simp

@[simp] theorem State.completeCheck_keyed (c : Check) :
    (s.completeCheck c).tx.state.isKeyed = s.tx.state.isKeyed := by
  unfold State.completeCheck
  dsimp only
  split
  · simp [State.commitReading]
  · simp [State.discardReading]

@[simp] theorem State.dwellExpiry_keyed (n : Nat) (m : DwellMode) :
    (s.dwellExpiry n m).tx.state.isKeyed = s.tx.state.isKeyed := by
  unfold State.dwellExpiry
  split <;> simp

@[simp] theorem State.retire_keyed : s.retire.tx.state.isKeyed = s.tx.state.isKeyed := by
  simp [State.retire, foldl_keeps (fun s : State => s.tx.state.isKeyed)]

@[simp] theorem State.inhibitTx_keyed : s.inhibitTx.tx.state.isKeyed = s.tx.state.isKeyed := by
  unfold State.inhibitTx
  cases h : s.tx.state with
  | clearing p g w => simp only [State.modTx_tx, h]; exact State.txIdle_keyed _ _
  | _ => simp [h]

@[simp] theorem State.openSegment_keyed (n : Nat) : (s.openSegment n).tx.state.isKeyed = s.tx.state.isKeyed := by
  simp [State.openSegment]

@[simp] theorem State.skipStop_keyed (i : Nat) (p : Stop) : (s.skipStop i p).tx.state.isKeyed = s.tx.state.isKeyed := by
  unfold State.skipStop
  dsimp only
  split <;> simp

@[simp] theorem State.unskipStop_keyed (i : Nat) (p : Stop) :
    (s.unskipStop i p).tx.state.isKeyed = s.tx.state.isKeyed := by
  unfold State.unskipStop
  split <;> simp

@[simp] theorem State.setParams_keyed (q : Params) : (s.setParams q).tx.state.isKeyed = s.tx.state.isKeyed := by
  unfold State.setParams
  dsimp only
  split <;> simp

@[simp] theorem State.expirePoll_keyed (e : PollEntry) (c : Bool) : (s.expirePoll e c).tx.state.isKeyed = false := by
  unfold State.expirePoll
  dsimp only
  split <;> simp

@[simp] theorem TxState.cancel_keyed (x : TxState) : x.cancel.isKeyed = x.isKeyed := by cases x <;> rfl

@[simp] theorem TxState.tick_keyed (clear : Bool) (x : TxState) : (x.tick clear).isKeyed = x.isKeyed := by cases x <;> rfl

/-- Only a poll in CLEARING has its guard time returned to zero (R133). -/
@[simp] theorem State.guardWatch_keyed : s.guardWatch.tx.state.isKeyed = s.tx.state.isKeyed := by
  unfold State.guardWatch
  cases h : s.tx.state with
  | clearing p g w => dsimp only; split <;> simp [h, TxState.isKeyed]
  | _ => simp [h]

@[simp] theorem State.endAttempt_keyed (ch : ChannelNo) (o : DecodeOutcome) :
    (s.endAttempt ch o).tx.state.isKeyed = s.tx.state.isKeyed := by
  unfold State.endAttempt
  dsimp only
  split <;> simp

end Keyed

section Radio

/-- The channels and whether the transmitter is keyed stand as they stood. -/
def State.sameRadio (s t : State) : Prop := t.channels = s.channels ∧ t.tx.state.isKeyed = s.tx.state.isKeyed

variable (s : State)

@[simp] theorem actSetRouteParams_keyed (link : Link) (b : SetRouteParamsBody) :
    (actSetRouteParams link b s).1.tx.state.isKeyed = s.tx.state.isKeyed := by
  simp only [actSetRouteParams]
  repeat' split
  all_goals simp [refuse]

@[simp] theorem actOpenSegment_keyed (n : Byte) : (actOpenSegment n s).1.tx.state.isKeyed = s.tx.state.isKeyed := by
  simp only [actOpenSegment]
  repeat' split
  all_goals simp [refuse]

@[simp] theorem actCloseSegment_keyed (n : Byte) : (actCloseSegment n s).1.tx.state.isKeyed = s.tx.state.isKeyed := by
  simp only [actCloseSegment]
  repeat' split
  all_goals simp [refuse]

@[simp] theorem actSkipStop_keyed (i : Word16) : (actSkipStop i s).1.tx.state.isKeyed = s.tx.state.isKeyed := by
  simp only [actSkipStop]
  repeat' split
  all_goals simp [refuse]

@[simp] theorem actUnskipStop_keyed (i : Word16) : (actUnskipStop i s).1.tx.state.isKeyed = s.tx.state.isKeyed := by
  simp only [actUnskipStop]
  repeat' split
  all_goals simp [refuse]

@[simp] theorem actPollStop_keyed (i : Word16) : (actPollStop i s).1.tx.state.isKeyed = s.tx.state.isKeyed := by
  simp only [actPollStop]
  repeat' split
  all_goals simp [refuse, refuseFree]

@[simp] theorem actPollCancel_keyed (i : Word16) : (actPollCancel i s).1.tx.state.isKeyed = s.tx.state.isKeyed := by
  simp only [actPollCancel]
  repeat' split
  all_goals simp [refuse]

@[simp] theorem actTxInhibit_keyed : (actTxInhibit s).1.tx.state.isKeyed = s.tx.state.isKeyed := by
  simp only [actTxInhibit]
  split <;> simp

@[simp] theorem actRetireRoute_keyed : (actRetireRoute s).1.tx.state.isKeyed = s.tx.state.isKeyed := by
  unfold actRetireRoute
  split <;> simp [refuse]

/-- Every command but SET_CHANNEL and CLEAR_COUNTERS leaves the channels alone, and none keys or unkeys (R15, R134, R177). -/
theorem act_sameRadio (link : Link) (c : Command) (h1 : ∀ b, c ≠ .setChannel b) (h2 : ∀ t, c ≠ .clearCounters t) :
    s.sameRadio (act link s c).1 := by
  unfold State.sameRadio
  cases c with
  | setChannel b => exact absurd rfl (h1 b)
  | clearCounters b => exact absurd rfl (h2 b)
  | _ => simp [act, actAckNotice, actSetNoticeMask, notices_frame, actTxEnable]

end Radio

section Channels

/-! ## What each channel operation leaves in its channel -/

variable (s : State) (ch : ChannelNo)

/-- An event that only a working part takes acts, and the causes due are announced; otherwise it is lost (R183, R194). -/
theorem whenRunning_next (act : State → State) :
    whenRunning s act = .next (if s.running = true then (act s).announceDue else s) := by
  unfold whenRunning State.running
  cases s.supply.monitor <;> rfl

theorem channels_set_get (v : Vector Channel 4) (n : ChannelNo) (x : Channel) :
    (v.set ch x)[n] = if n = ch then x else v[n] := by
  simp only [Fin.getElem_fin, Vector.getElem_set, Fin.ext_iff, eq_comm]

@[simp] theorem channels_set_self (v : Vector Channel 4) (x : Channel) : (v.set ch x)[ch] = x := by
  rw [channels_set_get, if_pos rfl]

/-- An operation whose outcome differs in one channel leaves the others alone. -/
theorem State.otherChannels_of_set {s t : State} {ch : ChannelNo} {x : Channel} (h : t.channels = s.channels.set ch x) :
    s.otherChannels ch t ∧ t.channels[ch] = x := by
  refine ⟨fun n hn => ?_, ?_⟩
  · rw [h, channels_set_get, if_neg hn]
  · rw [h, channels_set_self]

@[simp] theorem State.modChannel_channels (f : Channel → Channel) :
    (s.modChannel ch f).channels = s.channels.set ch (f s.channels[ch]) := rfl

/-- A channel after a change of its state (R18). -/
def Channel.moved (c : Channel) (new : ChannelState) : Channel :=
  { c with
    state := new
    counters := { c.counters with
      stateChanges := c.counters.stateChanges + 1
      wasDegraded := c.counters.wasDegraded || new == .degraded
      wasMuted := c.counters.wasMuted || new == .muted } }

@[simp] theorem State.setChannelState_channels (new : ChannelState) :
    (s.setChannelState ch new).channels = s.channels.set ch (s.channels[ch].moved new) := by
  simp [State.setChannelState, Channel.moved]

/-- The state in which a window close leaves a channel, the first row of R13 that matches. -/
def Channel.closeState (c : Channel) : ChannelState := c.state.afterClose c.window.errors c.entry

/-- A channel after a window close (R12, R13, R17). -/
def Channel.windowClosed (c : Channel) : Channel :=
  let d := if c.closeState = c.state then c else c.moved c.closeState
  let d := if c.closeState = .muted ∧ c.state ≠ .muted then { d with muteHold := some (.start Config.muteHoldMs) } else d
  { d with window := ⟨0, 0⟩ }.adopt

@[simp] theorem State.closeWindow_channels :
    (s.closeWindow ch).channels = s.channels.set ch s.channels[ch].windowClosed := by
  unfold State.closeWindow Channel.windowClosed Channel.closeState
  dsimp only
  split <;> split <;> simp

/-- A channel whose attempt has ended, before its window is looked at (R6 to R8, R12, R18). -/
def Channel.attemptCounted (c : Channel) (o : DecodeOutcome) : Channel :=
  { c with
    decoder := .hunt
    recent := []
    counters := c.counters.count o
    window := ⟨c.window.attempts + 1, c.window.errors + o.isError.toNat⟩ }

/-- A channel whose attempt has ended, its window closed at 64 attempts (R12). -/
def Channel.attemptEnded (c : Channel) (o : DecodeOutcome) : Channel :=
  if Config.windowAttempts ≤ c.window.attempts + 1 then (c.attemptCounted o).windowClosed else c.attemptCounted o

@[simp] theorem State.endAttempt_channels (o : DecodeOutcome) :
    (s.endAttempt ch o).channels = s.channels.set ch (s.channels[ch].attemptEnded o) := by
  unfold State.endAttempt Channel.attemptEnded
  simp only [State.guardWatch_frame, State.modChannel_channels, channels_set_self]
  split <;> simp [Channel.attemptCounted]

@[simp] theorem State.streamRuns_channels :
    (s.streamRuns ch).channels = s.channels.set ch { s.channels[ch] with stream := some (.start Config.streamStopMs) } := rfl

@[simp] theorem State.setCarrier_channels (present : Bool) :
    (s.setCarrier ch present).channels =
      s.channels.set ch { s.channels[ch] with cdPin := s.channels[ch].rule.cdHigh == present } := rfl

@[simp] theorem State.disableChannel_channels (e : PlanEntry) :
    (s.disableChannel ch e).channels = s.channels.set ch
      { s.channels[ch].moved .off with
        entry := e, pendingEntry := none, decoder := .off, window := ⟨0, 0⟩, muteHold := none } := by
  simp [State.disableChannel]

@[simp] theorem State.enableChannel_channels (e : PlanEntry) :
    (s.enableChannel ch e).channels = s.channels.set ch
      { s.channels[ch].moved .active with
        entry := e, pendingEntry := none, window := ⟨0, 0⟩, muteHold := none, recent := []
        decoder := if ch = 0 ∧ s.tx.state.isKeyed then .blanked else .hunt } := by
  simp [State.enableChannel]

/-- A channel after one symbol (R4, R5). -/
def Channel.tookSymbol (c : Channel) (symbol : Nibble) : Channel :=
  let last := c.recent ++ [symbol]
  let c := { c with stream := some (.start Config.streamStopMs) }
  if c.decoder = .hunt then
    if last = syncPattern ∧ c.carrier then { c with decoder := .header c.entry.carrierRule }
    else { c with recent := last.drop (last.length - 3) }
  else c

@[simp] theorem State.takeSymbol_channels (symbol : Nibble) :
    (State.takeSymbol ch s symbol).channels = s.channels.set ch (s.channels[ch].tookSymbol symbol) := by
  unfold State.takeSymbol Channel.tookSymbol
  simp only [State.streamRuns_channels, channels_set_self]
  split
  · split <;> simp
  · simp

/-- A channel after a plan entry is accepted for it; `blank` says whether it is CH0 with the transmitter keyed (R9, R15 to R17). -/
def Channel.planned (c : Channel) (blank : Bool) (e : PlanEntry) : Channel :=
  match c.entry.enabled, e.enabled with
  | true, false =>
    { c.moved .off with entry := e, pendingEntry := none, decoder := .off, window := ⟨0, 0⟩, muteHold := none }
  | false, true =>
    { c.moved .active with
      entry := e, pendingEntry := none, window := ⟨0, 0⟩, muteHold := none, recent := []
      decoder := if blank then .blanked else .hunt }
  | true, true => { c with pendingEntry := some e }
  | false, false => { c with entry := e, pendingEntry := none }

/-- The state after a plan entry is accepted, before the guard time is looked at (R15 to R17). -/
def State.planChannel (s : State) (ch : ChannelNo) (e : PlanEntry) : State :=
  match s.channels[ch].entry.enabled, e.enabled with
  | true, false => s.disableChannel ch e
  | false, true => s.enableChannel ch e
  | true, true => s.modChannel ch fun c => { c with pendingEntry := some e }
  | false, false => s.modChannel ch fun c => { c with entry := e, pendingEntry := none }

theorem actSetChannel_accepted {b : SetChannelBody} (h : firstFailing (setChannelTests b) = none) :
    actSetChannel b s = ((s.planChannel (Fin.ofNat 4 b.channel.toNat) (planEntryOf b)).guardWatch, .ok []) := by
  simp only [actSetChannel, h]
  rfl

theorem actSetChannel_refused {b : SetChannelBody} {field : Nat} (h : firstFailing (setChannelTests b) = some field) :
    actSetChannel b s = (s, badValue field) := by
  simp only [actSetChannel, h]
  rfl

@[simp] theorem State.planChannel_channels (e : PlanEntry) :
    (s.planChannel ch e).channels =
      s.channels.set ch (s.channels[ch].planned (decide (ch = 0) && s.tx.state.isKeyed) e) := by
  unfold State.planChannel Channel.planned
  cases s.channels[ch].entry.enabled <;> cases e.enabled <;> simp

@[simp] theorem State.planChannel_tx (e : PlanEntry) : (s.planChannel ch e).tx = s.tx := by
  unfold State.planChannel
  split <;> simp

end Channels

section Taking

/-! ## Command rows -/

/-- A row that carries a command is that command's message arriving whole on its link (R174, log 7). -/
theorem exec_rowCommand {i : Instr} {link : Link} {tag : Byte} {c : Command} (h : rowCommand i = some (link, tag, c))
    (s : State) : exec i s = linkCommand link tag c s := by
  cases i <;> cases h <;> rfl

/-! ## The head command of a link -/

variable (s : State)

/-- Taking the head of the inbound hold does nothing, or acts on it and queues its reply (R175, R178). -/
theorem State.takeHead_cases :
    s.takeHead = s ∨ ∃ x rest, s.van.hold = x :: rest ∧
      let r := ((s.modVan fun v => { v with hold := rest }).countVan fun k => { k with taken := k.taken + 1 }).answer .van x
      s.takeHead = (r.1.noteReset x).queueMessage (replyMessage x.kind x.tag r.2) := by
  unfold State.takeHead
  split
  · exact .inl rfl
  · rename_i x rest hx
    split
    · exact .inr ⟨x, rest, hx, rfl⟩
    · exact .inl rfl

/-- Taking the head held depot command does nothing, or acts on it and lets its reply wait (R150). -/
theorem State.takeHeld_cases :
    s.takeHeld = s ∨ ∃ x rest, s.dock.held = x :: rest ∧
      let r := (s.modDock fun d => { d with held := rest }).answer .dock x
      s.takeHeld = r.1.modDock fun d => { d with reply := some (replyMessage x.kind x.tag r.2) }.sendNext := by
  unfold State.takeHeld
  split
  · exact .inl rfl
  · rename_i x rest hx
    split
    · exact .inr ⟨x, rest, hx, rfl⟩
    · exact .inl rfl

end Taking

section Untouched

/-- The events that reach neither the channels nor the transmitter. -/
def sparesRadio : Instr → Bool
  | .holdTimerExpiry _ | .gatherLimitExpiry _ | .checkStart | .checkCompletion | .indexBuildComplete | .dwellTimerExpiry _
  | .dockSignalPresent | .dockSignalAbsent | .dockSignalLoss | .aligned | .symbolError | .dockErrorWindowEnd
  | .abilityPage _ | .depotPage _ | .pageTimeout | .blockAck _ | .blockNak .. | .resendDelayExpiry | .ackTimerExpiry
  | .dockMessageAbandoned | .ppsPulse | .pulseWatchExpiry | .secondStep | .vanByteGapTimeout | .byteWithoutStopBit
  | .attnPulseEnd | .attnLowGapEnd | .powerLost | .vddGood | .vddGoodLevelCrossing _ | .vbakLow _ | .resetNRelease => true
  | _ => false

theorem State.sameRadio_refl (s : State) : s.sameRadio s := ⟨rfl, rfl⟩

theorem State.sameRadio_trans {s t u : State} (h1 : s.sameRadio t) (h2 : t.sameRadio u) : s.sameRadio u :=
  ⟨h2.1.trans h1.1, h2.2.trans h1.2⟩

theorem whenRunning_sameRadio {s t : State} {act : State → State} (ht : whenRunning s act = .next t)
    (ha : s.sameRadio (act s)) : s.sameRadio t := by
  rw [whenRunning_next, Host.Outcome.next.injEq] at ht
  subst ht
  split
  · exact State.sameRadio_trans ha ⟨by simp, by simp⟩
  · exact s.sameRadio_refl

theorem spared_sameRadio {s t : State} {i : Instr} (hi : sparesRadio i = true) (ht : exec i s = .next t) : s.sameRadio t := by
  have take (act : State → State) (hw : whenRunning s act = .next t) (ha : s.sameRadio (act s)) : s.sameRadio t :=
    whenRunning_sameRadio hw ha
  cases i with
  | holdTimerExpiry n => exact take _ (show execHoldTimerExpiry n s = _ from ht) (by simp [State.sameRadio])
  | gatherLimitExpiry n => exact take _ (show execGatherLimitExpiry n s = _ from ht) (by simp [State.sameRadio])
  | checkStart =>
    refine take _ (show execCheckStart s = _ from ht) ?_
    split <;> simp [State.sameRadio]
  | checkCompletion =>
    refine take _ (show execCheckCompletion s = _ from ht) ?_
    split <;> simp [State.sameRadio]
  | indexBuildComplete =>
    refine take _ (show execIndexBuildComplete s = _ from ht) ?_
    split <;> simp [State.sameRadio]
  | dwellTimerExpiry n =>
    refine take _ (show execDwellTimerExpiry n s = _ from ht) ?_
    repeat' split
    all_goals simp [State.sameRadio]
  | dockSignalPresent =>
    exact State.sameRadio_trans (t := s.setSignal true) ⟨rfl, rfl⟩
      (whenRunning_sameRadio (show execDockSignalPresent s = _ from ht) (by simp [State.sameRadio]))
  | dockSignalAbsent =>
    exact State.sameRadio_trans (t := s.setSignal false) ⟨rfl, rfl⟩
      (whenRunning_sameRadio (show execDockSignalAbsent s = _ from ht) (by simp [State.sameRadio]))
  | dockSignalLoss =>
    refine take _ (show execDockSignalLoss s = _ from ht) ?_
    split <;> simp [State.sameRadio]
  | aligned =>
    refine take _ (show execAligned s = _ from ht) ?_
    split <;> simp [State.sameRadio]
  | symbolError =>
    refine take _ (show execSymbolError s = _ from ht) ?_
    simp only [State.thresholdReached, State.abandonMessage, State.sameRadio]
    repeat' split
    all_goals simp
  | dockErrorWindowEnd =>
    refine take _ (show execDockErrorWindowEnd s = _ from ht) ?_
    split <;> simp [State.sameRadio]
  | abilityPage p => exact take _ (show execAbilityPage p s = _ from ht) (by simp [State.sameRadio])
  | depotPage p => exact take _ (show execDepotPage p s = _ from ht) (by simp [State.sameRadio])
  | pageTimeout =>
    refine take _ (show execPageTimeout s = _ from ht) ?_
    split <;> simp [State.sameRadio]
  | blockAck n => exact take _ (show execBlockAck n s = _ from ht) (by simp [State.sameRadio])
  | blockNak n r => exact take _ (show execBlockNak n r s = _ from ht) (by simp [State.sameRadio])
  | resendDelayExpiry =>
    refine take _ (show execResendDelayExpiry s = _ from ht) ?_
    split <;> simp [State.sameRadio]
  | ackTimerExpiry =>
    refine take _ (show execAckTimerExpiry s = _ from ht) ?_
    simp only [State.resendBlock]
    repeat' split
    all_goals simp [State.sameRadio]
  | dockMessageAbandoned =>
    refine take _ (show execDockMessageAbandoned s = _ from ht) ?_
    unfold State.abandonMessage
    split <;> simp [State.sameRadio]
  | ppsPulse =>
    refine take _ (show execPpsPulse s = _ from ht) ?_
    dsimp only
    split <;> simp [State.sameRadio]
  | pulseWatchExpiry =>
    refine take _ (show execPulseWatchExpiry s = _ from ht) ?_
    dsimp only
    repeat' split
    all_goals simp [State.sameRadio]
  | secondStep =>
    refine take _ (show execSecondStep s = _ from ht) ?_
    split <;> simp [State.sameRadio]
  | vanByteGapTimeout =>
    refine take _ (show execVanByteGapTimeout s = _ from ht) ?_
    split <;> exact ⟨rfl, rfl⟩
  | byteWithoutStopBit => exact take _ (show execByteWithoutStopBit s = _ from ht) ⟨rfl, rfl⟩
  | attnPulseEnd =>
    refine take _ (show execAttnPulseEnd s = _ from ht) ?_
    split <;> exact ⟨rfl, rfl⟩
  | attnLowGapEnd =>
    refine take _ (show execAttnLowGapEnd s = _ from ht) ?_
    split <;> exact ⟨rfl, rfl⟩
  | powerLost =>
    replace ht : execPowerLost s = .next t := ht
    unfold execPowerLost at ht
    split at ht <;> cases ht <;> exact ⟨rfl, rfl⟩
  | vddGood =>
    replace ht : execVddGood s = .next t := ht
    unfold execVddGood at ht
    repeat' split at ht
    all_goals cases ht; exact ⟨rfl, rfl⟩
  | vddGoodLevelCrossing b =>
    replace ht : execVddGoodLevelCrossing b s = .next t := ht
    unfold execVddGoodLevelCrossing at ht
    dsimp only at ht
    split at ht <;> cases ht <;> exact ⟨rfl, rfl⟩
  | vbakLow b =>
    replace ht : execVbakLow s b = .next t := ht
    cases ht
    exact ⟨rfl, rfl⟩
  | resetNRelease =>
    replace ht : execResetNRelease s = .next t := ht
    unfold execResetNRelease at ht
    dsimp only at ht
    split at ht <;> cases ht <;> exact ⟨rfl, rfl⟩
  | _ => nomatch hi

end Untouched
section Blanking

/-! ## One channel -/

/-- What R9 and R15 ask of channel `n`: OFF exactly while disabled, BLANKED only on CH0 and only while the transmitter is keyed, and
CH0 BLANKED or OFF then. -/
def Channel.blanksRight (c : Channel) (n : ChannelNo) (keyed : Bool) : Prop :=
  c.enabledHolds ∧ (c.decoder = .blanked → n = 0 ∧ keyed = true) ∧
    (n = 0 → keyed = true → c.decoder = .blanked ∨ c.decoder = .off)

theorem State.blankingHolds_iff {s : State} :
    s.blankingHolds ↔ ∀ n : ChannelNo, s.channels[n].blanksRight n s.tx.state.isKeyed := by
  constructor
  · rintro ⟨he, hother, hkeyed, hblank⟩ n
    refine ⟨he n, fun hb => ?_, ?_⟩
    · by_cases hn : n = 0
      · subst hn
        exact ⟨rfl, hkeyed hb⟩
      · exact absurd hb (hother n hn)
    · rintro rfl hk
      exact hblank hk
  · intro h
    exact ⟨fun n => (h n).1, fun n hn hb => hn ((h n).2.1 hb).1, fun hb => ((h 0).2.1 hb).2, fun hk => (h 0).2.2 rfl hk⟩

/-- `blanksRight` reads the enabled bit in force and pending, whether the state is OFF, and whether the decoder is OFF
or BLANKED. -/
theorem Channel.blanksRight_congr {c d : Channel} {n : ChannelNo} {keyed : Bool} (h : c.blanksRight n keyed)
    (he : d.entry.enabled = c.entry.enabled) (hs : d.state = .off ↔ c.state = .off)
    (hoff : d.decoder = .off ↔ c.decoder = .off) (hblank : d.decoder = .blanked ↔ c.decoder = .blanked)
    (hp : ∀ e, d.pendingEntry = some e → e.enabled = c.entry.enabled) : d.blanksRight n keyed := by
  obtain ⟨⟨h1, h2, -⟩, h4, h5⟩ := h
  refine ⟨⟨?_, ?_, fun e h => (hp e h).trans he.symm⟩, ?_, ?_⟩
  · rw [he, h1, ne_eq, ne_eq, hs]
  · rw [he, h2, ne_eq, ne_eq, hoff]
  · rwa [hblank]
  · rwa [hblank, hoff]

theorem Decoder.ne_of_inProgress {d : Decoder} (h : d.inProgress = true) : d ≠ .off ∧ d ≠ .blanked := by
  cases d <;> simp_all [Decoder.inProgress]

/-! ## The channels of a state -/

theorem State.blankingHolds_of_sameRadio {s t : State} (h : s.blankingHolds) (hr : s.sameRadio t) : t.blankingHolds := by
  obtain ⟨hc, hk⟩ := hr
  rw [State.blankingHolds_iff] at h ⊢
  rwa [hc, hk]

/-- Changing one channel keeps the invariant where the channel keeps its part. -/
theorem State.blankingHolds_of_set {s t : State} (h : s.blankingHolds) {ch : ChannelNo} {x : Channel}
    (hc : t.channels = s.channels.set ch x) (hk : t.tx.state.isKeyed = s.tx.state.isKeyed)
    (hx : s.channels[ch].blanksRight ch s.tx.state.isKeyed → x.blanksRight ch s.tx.state.isKeyed) : t.blankingHolds := by
  rw [State.blankingHolds_iff] at h ⊢
  intro n
  rw [hc, hk, channels_set_get]
  split
  · rename_i hn
    rw [hn]
    exact hx (h ch)
  · exact h n

/-! ## The channel operations -/

theorem ChannelState.afterClose_off (st : ChannelState) (errors : Nat) (e : PlanEntry) :
    st.afterClose errors e = .off ↔ st = .off := by
  cases st <;> simp only [ChannelState.afterClose]
  all_goals repeat' split
  all_goals simp

/-- A window close turns no channel OFF or on and leaves the decoder alone (R13, R17). -/
theorem Channel.windowClosed_decoder (c : Channel) :
    c.windowClosed.decoder = c.decoder ∧ (c.windowClosed.state = .off ↔ c.state = .off) ∧
    c.windowClosed.entry = c.pendingEntry.getD c.entry ∧ c.windowClosed.pendingEntry = none := by
  have hoff := ChannelState.afterClose_off c.state c.window.errors c.entry
  unfold Channel.windowClosed Channel.closeState
  dsimp only
  split <;> split <;> simp_all [Channel.adopt, Channel.moved]

theorem PlanEntry.enabled_getD {c : Channel} (h : ∀ e, c.pendingEntry = some e → e.enabled = c.entry.enabled) :
    (c.pendingEntry.getD c.entry).enabled = c.entry.enabled := by
  cases hp : c.pendingEntry with
  | none => rfl
  | some e => exact h e hp

theorem Channel.windowClosed_blanksRight {c : Channel} {n : ChannelNo} {keyed : Bool} (h : c.blanksRight n keyed) :
    c.windowClosed.blanksRight n keyed := by
  obtain ⟨hd, hs, he, hp⟩ := c.windowClosed_decoder
  refine Channel.blanksRight_congr h ?_ hs (by rw [hd]) (by rw [hd]) (by simp [hp])
  rw [he, PlanEntry.enabled_getD h.1.2.2]

/-- A channel that receives may stand in any decoder state but OFF and BLANKED (R5 to R9). -/
theorem Channel.withDecoder_blanksRight {c d : Channel} {n : ChannelNo} {keyed : Bool} (h : c.blanksRight n keyed)
    (h1 : c.decoder ≠ .off) (h2 : c.decoder ≠ .blanked) (h3 : d.decoder ≠ .off) (h4 : d.decoder ≠ .blanked)
    (he : d.entry = c.entry) (hs : d.state = c.state) (hp : d.pendingEntry = c.pendingEntry) : d.blanksRight n keyed := by
  refine Channel.blanksRight_congr h (by rw [he]) (by rw [hs]) (by simp [h1, h3]) (by simp [h2, h4]) ?_
  rw [hp]
  exact h.1.2.2

/-- Only an attempt in progress ends (R6 to R8). -/
theorem Channel.attemptEnded_blanksRight {c : Channel} {n : ChannelNo} {keyed : Bool} (h : c.blanksRight n keyed)
    (hp : c.decoder.inProgress = true) (o : DecodeOutcome) : (c.attemptEnded o).blanksRight n keyed := by
  obtain ⟨h1, h2⟩ := Decoder.ne_of_inProgress hp
  have hc : (c.attemptCounted o).blanksRight n keyed :=
    Channel.withDecoder_blanksRight h h1 h2 (by simp [Channel.attemptCounted]) (by simp [Channel.attemptCounted]) rfl rfl rfl
  unfold Channel.attemptEnded
  split
  · exact Channel.windowClosed_blanksRight hc
  · exact hc

theorem Channel.tookSymbol_blanksRight {c : Channel} {n : ChannelNo} {keyed : Bool} (h : c.blanksRight n keyed) (x : Nibble) :
    (c.tookSymbol x).blanksRight n keyed := by
  unfold Channel.tookSymbol
  dsimp only
  split
  · rename_i hd
    split
    · exact Channel.withDecoder_blanksRight h (by simp [hd]) (by simp [hd]) (by simp) (by simp) rfl rfl rfl
    · exact h
  · exact h

theorem State.blankingHolds_endAttempt {s : State} (h : s.blankingHolds) {ch : ChannelNo}
    (hp : s.channels[ch].decoder.inProgress = true) (o : DecodeOutcome) : (s.endAttempt ch o).blankingHolds :=
  State.blankingHolds_of_set h (s.endAttempt_channels ch o) (s.endAttempt_keyed ch o)
    fun hc => Channel.attemptEnded_blanksRight hc hp o

theorem State.blankingHolds_streamRuns {s : State} (h : s.blankingHolds) (ch : ChannelNo) :
    (s.streamRuns ch).blankingHolds :=
  State.blankingHolds_of_set h (s.streamRuns_channels ch) (by simp) id

theorem State.blankingHolds_setCarrier {s : State} (h : s.blankingHolds) (ch : ChannelNo) (present : Bool) :
    (s.setCarrier ch present).blankingHolds :=
  State.blankingHolds_of_set h (s.setCarrier_channels ch present) (by simp) id

theorem State.takeSymbol_keyed (s : State) (ch : ChannelNo) (x : Nibble) :
    (State.takeSymbol ch s x).tx.state.isKeyed = s.tx.state.isKeyed := by
  unfold State.takeSymbol
  dsimp only
  repeat' split
  all_goals simp

theorem State.blankingHolds_guardWatch {s : State} (h : s.blankingHolds) : s.guardWatch.blankingHolds :=
  State.blankingHolds_of_sameRadio h ⟨by simp, by simp⟩

theorem State.blankingHolds_announceDue {s : State} (h : s.blankingHolds) : s.announceDue.blankingHolds :=
  State.blankingHolds_of_sameRadio h ⟨by simp, by simp⟩

theorem State.blankingHolds_modVan {s : State} (h : s.blankingHolds) (f : Van → Van) : (s.modVan f).blankingHolds :=
  State.blankingHolds_of_sameRadio h ⟨rfl, rfl⟩

theorem State.blankingHolds_modDock {s : State} (h : s.blankingHolds) (f : Dock → Dock) : (s.modDock f).blankingHolds :=
  State.blankingHolds_of_sameRadio h ⟨rfl, rfl⟩

theorem whenRunning_keepsBlanking {s t : State} {act : State → State} (h : s.blankingHolds)
    (ha : s.blankingHolds → (act s).blankingHolds) (ht : whenRunning s act = .next t) : t.blankingHolds := by
  rw [whenRunning_next, Host.Outcome.next.injEq] at ht
  subst ht
  split
  · exact State.blankingHolds_announceDue (ha h)
  · exact h

theorem foldl_keepsBlanking {α : Type} {f : State → α → State}
    (hf : ∀ s a, s.blankingHolds → (f s a).blankingHolds) :
    ∀ (l : List α) (s : State), s.blankingHolds → (l.foldl f s).blankingHolds
  | [], _, h => h
  | a :: l, s, h => foldl_keepsBlanking hf l (f s a) (hf s a h)

/-! ## The receive channels' rows -/

theorem execSyncDetection_keepsBlanking {s t : State} {ch : ChannelNo} {symbols : List Nibble} (h : s.blankingHolds)
    (ht : execSyncDetection ch s symbols = .next t) : t.blankingHolds := by
  exact whenRunning_keepsBlanking h (foldl_keepsBlanking (fun u x hu =>
    State.blankingHolds_of_set hu (u.takeSymbol_channels ch x) (u.takeSymbol_keyed ch x)
      fun hc => Channel.tookSymbol_blanksRight hc x) symbols s) ht

theorem execHeaderComplete_keepsBlanking {s t : State} {ch : ChannelNo} {a b : Byte} (h : s.blankingHolds)
    (ht : execHeaderComplete ch a b s = .next t) : t.blankingHolds := by
  refine whenRunning_keepsBlanking h (fun h => ?_) ht
  have hs := State.blankingHolds_streamRuns h ch
  dsimp only
  generalize s.streamRuns ch = u at hs
  split
  · rename_i r hd
    split
    · exact State.blankingHolds_of_set hs (u.modChannel_channels ch _) (by simp) fun hc =>
        Channel.withDecoder_blanksRight hc (by rw [hd]; nofun) (by rw [hd]; nofun) (by simp) (by simp) rfl rfl rfl
    · exact State.blankingHolds_endAttempt hs (by rw [hd]; rfl) _
  all_goals exact hs

theorem execBlockComplete_keepsBlanking {s t : State} {ch : ChannelNo} {fec : Fec} {body : List Byte} {crc : Word16}
    {levels : List (BitVec 7)} (h : s.blankingHolds) (ht : execBlockComplete ch fec body crc levels s = .next t) :
    t.blankingHolds := by
  refine whenRunning_keepsBlanking h (fun h => ?_) ht
  have hs := State.blankingHolds_streamRuns h ch
  dsimp only
  generalize s.streamRuns ch = u at hs
  split
  · rename_i r n hd
    split
    · have he := State.blankingHolds_endAttempt hs (ch := ch) (by rw [hd]; rfl) (blockOutcome fec body crc)
      have hh := State.blankingHolds_of_sameRadio (t := (u.endAttempt ch (blockOutcome fec body crc)).handOn ch fec body levels)
        he ⟨by simp, by simp⟩
      split <;> assumption
    · exact hs
  all_goals exact hs

theorem execCarrierLoss_keepsBlanking {s t : State} {ch : ChannelNo} (h : s.blankingHolds)
    (ht : execCarrierLoss ch s = .next t) : t.blankingHolds := by
  refine whenRunning_keepsBlanking (State.blankingHolds_setCarrier h ch false) (fun h => ?_) ht
  dsimp only
  split
  · rename_i hp
    exact State.blankingHolds_endAttempt h hp.1 _
  · exact h

theorem execStreamStopped_keepsBlanking {s t : State} {ch : ChannelNo} (h : s.blankingHolds)
    (ht : execStreamStopped ch s = .next t) : t.blankingHolds := by
  refine whenRunning_keepsBlanking h (fun h => ?_) ht
  dsimp only
  split
  · have hs : (s.modChannel ch fun c => { c with stream := none }).blankingHolds :=
      State.blankingHolds_of_set h (s.modChannel_channels ch _) (by simp) id
    split
    · rename_i hp
      exact State.blankingHolds_endAttempt hs hp _
    · exact hs
  · exact h

theorem execMuteHoldExpiry_keepsBlanking {s t : State} {ch : ChannelNo} (h : s.blankingHolds)
    (ht : execMuteHoldExpiry ch s = .next t) : t.blankingHolds := by
  refine whenRunning_keepsBlanking h (fun h => ?_) ht
  dsimp only
  split
  · rename_i hm
    refine State.blankingHolds_guardWatch (State.blankingHolds_of_set (ch := ch) h
      (x := { s.channels[ch].moved .degraded with muteHold := none, window := ⟨0, 0⟩ }.adopt) (by simp) (by simp) fun hc => ?_)
    refine Channel.blanksRight_congr hc ?_ ?_ ?_ ?_ (by simp [Channel.adopt])
    · exact PlanEntry.enabled_getD hc.1.2.2
    · have hne : s.channels[ch].state ≠ .off := by rw [hm.1]; nofun
      simpa [Channel.adopt, Channel.moved] using hne
    all_goals exact Iff.rfl
  · exact h

/-! ## The transmitter's rows -/

theorem execPollTake_keepsBlanking {s t : State} (h : s.blankingHolds) (ht : execPollTake s = .next t) : t.blankingHolds := by
  refine State.blankingHolds_of_sameRadio h (whenRunning_sameRadio ht ?_)
  split
  · rename_i hs _ _
    exact ⟨by simp, by simp [hs, TxState.isKeyed]⟩
  · exact ⟨rfl, rfl⟩

theorem Decoder.blank_off_iff (d : Decoder) : d.blank = .off ↔ d = .off := by
  cases d <;> simp [Decoder.blank]

theorem Decoder.blank_cases (d : Decoder) : d.blank = .blanked ∨ d.blank = .off := by
  cases d <;> simp [Decoder.blank]

/-- Entry to KEYED blanks CH0 alone, unless it is OFF (R9, R134). -/
theorem State.blankingHolds_key {s : State} (h : s.blankingHolds) (p : PollEntry) : (s.key p).blankingHolds := by
  rw [State.blankingHolds_iff] at h ⊢
  intro n
  have hk : (s.key p).tx.state.isKeyed = true := by simp [State.key, TxState.isKeyed]
  have hc : (s.key p).channels = s.channels.set (0 : ChannelNo)
      { s.channels[(0 : ChannelNo)] with decoder := s.channels[(0 : ChannelNo)].decoder.blank } := by simp [State.key]
  rw [hk, hc, channels_set_get]
  obtain ⟨⟨he, hd, hp⟩, hb, -⟩ := h n
  split
  · rename_i hn
    subst hn
    exact ⟨⟨he, hd.trans (not_congr (Decoder.blank_off_iff _).symm), hp⟩, fun _ => ⟨rfl, rfl⟩,
      fun _ _ => Decoder.blank_cases _⟩
  · rename_i hn
    exact ⟨⟨he, hd, hp⟩, fun hx => absurd (hb hx).1 hn, fun hx => absurd hx hn⟩

theorem execGuardComplete_keepsBlanking {s t : State} (h : s.blankingHolds) (ht : execGuardComplete s = .next t) :
    t.blankingHolds := by
  refine whenRunning_keepsBlanking h (fun h => ?_) ht
  split
  · split
    · exact State.blankingHolds_key h _
    · exact h
  all_goals exact h

theorem execClearWaitExpiry_keepsBlanking {s t : State} (h : s.blankingHolds) (ht : execClearWaitExpiry s = .next t) :
    t.blankingHolds := by
  refine State.blankingHolds_of_sameRadio h (whenRunning_sameRadio ht ?_)
  split
  · rename_i hs
    split
    · exact ⟨by simp, by rw [hs]; exact State.txIdle_keyed _ _⟩
    · exact ⟨rfl, rfl⟩
  all_goals exact ⟨rfl, rfl⟩

theorem Decoder.unblank_off_iff (d : Decoder) : d.unblank = .off ↔ d = .off := by
  cases d <;> simp [Decoder.unblank]

theorem Decoder.unblank_ne_blanked (d : Decoder) : d.unblank ≠ .blanked := by
  cases d <;> simp [Decoder.unblank]

/-- When the transmitter unkeys, CH0 leaves BLANKED (R9, R134). -/
theorem State.blankingHolds_unkey {s t : State} (h : s.blankingHolds)
    (hc : t.channels = s.channels.set (0 : ChannelNo) s.channels[(0 : ChannelNo)].unblank)
    (hk : t.tx.state.isKeyed = false) : t.blankingHolds := by
  rw [State.blankingHolds_iff] at h ⊢
  intro n
  rw [hk, hc, channels_set_get]
  obtain ⟨⟨he, hd, hp⟩, hb, -⟩ := h n
  split
  · rename_i hn
    subst hn
    exact ⟨⟨he, hd.trans (not_congr (Decoder.unblank_off_iff _).symm), hp⟩,
      fun hx => absurd hx (Decoder.unblank_ne_blanked _), fun _ => nofun⟩
  · rename_i hn
    exact ⟨⟨he, hd, hp⟩, fun hx => absurd (hb hx).1 hn, fun _ => nofun⟩

theorem execBurstEnd_keepsBlanking {s t : State} (h : s.blankingHolds) (ht : execBurstEnd s = .next t) :
    t.blankingHolds := by
  refine whenRunning_keepsBlanking h (fun h => ?_) ht
  split
  · split
    · exact State.blankingHolds_unkey h (by simp) (by simp [TxState.isKeyed])
    · exact h
  all_goals exact h

theorem execListenWindowExpiry_keepsBlanking {s t : State} (h : s.blankingHolds)
    (ht : execListenWindowExpiry s = .next t) : t.blankingHolds := by
  refine State.blankingHolds_of_sameRadio h (whenRunning_sameRadio ht ?_)
  split
  · rename_i hs
    split
    · exact ⟨by simp, by rw [hs]; exact State.expirePoll_keyed _ _ _⟩
    · exact ⟨rfl, rfl⟩
  all_goals exact ⟨rfl, rfl⟩

/-! ## Capture -/

theorem execCaptureFrame_keepsBlanking {s t : State} {ch : ChannelNo} (h : s.blankingHolds)
    (ht : execCaptureFrame ch s = .next t) : t.blankingHolds := by
  refine State.blankingHolds_of_sameRadio h (whenRunning_sameRadio ht ?_)
  split
  · exact ⟨rfl, rfl⟩
  · dsimp only
    split
    · rename_i hm
      exact ⟨by simp, by simpa using (Transmitter.not_keyed_of_matches hm).symm⟩
    · exact ⟨by simp, by simp⟩

/-! ## Commands -/

/-- An accepted plan entry leaves the channel OFF exactly where it disables it, and BLANKED where R9 has it (R15 to R17). -/
theorem Channel.planned_blanksRight {c : Channel} {n : ChannelNo} {keyed : Bool} (h : c.blanksRight n keyed) (e : PlanEntry) :
    (c.planned (decide (n = 0) && keyed) e).blanksRight n keyed := by
  unfold Channel.planned
  split
  · rename_i he
    exact ⟨⟨by simp [he, Channel.moved], by simp [he], by simp⟩, by simp, by simp⟩
  · rename_i he
    by_cases hb : n = 0 ∧ keyed = true
    · exact ⟨⟨by simp [he, Channel.moved], by simp [he, hb], by simp⟩, by simp [hb], by simp [hb]⟩
    · exact ⟨⟨by simp [he, Channel.moved], by simp [he, hb], by simp⟩, by simp [hb], fun h1 h2 => absurd ⟨h1, h2⟩ hb⟩
  · exact Channel.blanksRight_congr h rfl Iff.rfl Iff.rfl Iff.rfl (by simp_all)
  · rename_i hc he
    exact Channel.blanksRight_congr h (he.trans hc.symm) Iff.rfl Iff.rfl Iff.rfl (by simp)

theorem actSetChannel_keepsBlanking {s : State} (h : s.blankingHolds) (b : SetChannelBody) :
    (actSetChannel b s).1.blankingHolds := by
  cases hf : firstFailing (setChannelTests b) with
  | some field =>
    rw [actSetChannel_refused s hf]
    exact h
  | none =>
    rw [actSetChannel_accepted s hf]
    exact State.blankingHolds_guardWatch (State.blankingHolds_of_set h (s.planChannel_channels _ _)
      (by simp) fun hc => Channel.planned_blanksRight hc _)

theorem actClearCounters_keepsBlanking {s : State} (h : s.blankingHolds) (target : Byte) :
    (actClearCounters target s).1.blankingHolds := by
  unfold actClearCounters
  split
  · exact State.blankingHolds_of_set h (s.modChannel_channels _ _) (by simp) id
  all_goals exact State.blankingHolds_of_sameRadio h ⟨rfl, rfl⟩

theorem act_keepsBlanking {s : State} (h : s.blankingHolds) (link : Link) (c : Command) :
    (act link s c).1.blankingHolds := by
  by_cases h1 : ∃ b, c = .setChannel b
  · obtain ⟨b, rfl⟩ := h1
    exact actSetChannel_keepsBlanking h b
  · by_cases h2 : ∃ target, c = .clearCounters target
    · obtain ⟨target, rfl⟩ := h2
      exact actClearCounters_keepsBlanking h target
    · exact State.blankingHolds_of_sameRadio h
        (act_sameRadio s link c (fun b hb => h1 ⟨b, hb⟩) (fun target ht => h2 ⟨target, ht⟩))

theorem State.answer_keepsBlanking {s : State} (h : s.blankingHolds) (link : Link) (x : Held) :
    (s.answer link x).1.blankingHolds := by
  unfold State.answer
  split
  · exact h
  · exact act_keepsBlanking h _ _
  · split
    · exact act_keepsBlanking h _ _
    · exact h

theorem State.noteReset_sameRadio (s : State) (x : Held) : s.sameRadio (s.noteReset x) := by
  unfold State.noteReset
  split <;> exact ⟨rfl, rfl⟩

theorem State.takeHead_keepsBlanking {s : State} (h : s.blankingHolds) : s.takeHead.blankingHolds := by
  obtain he | ⟨x, rest, -, he⟩ := s.takeHead_cases
  · rwa [he]
  · rw [he]
    exact State.blankingHolds_modVan (State.blankingHolds_of_sameRadio (State.answer_keepsBlanking
      (State.blankingHolds_modVan (State.blankingHolds_modVan h _) _) .van x) (State.noteReset_sameRadio _ x)) _

theorem State.vanHold_keepsBlanking {s : State} (h : s.blankingHolds) (x : Held) : (s.vanHold x).blankingHolds := by
  unfold State.vanHold
  split
  · exact State.takeHead_keepsBlanking (State.blankingHolds_of_sameRadio h ⟨rfl, rfl⟩)
  · exact State.blankingHolds_of_sameRadio h ⟨rfl, rfl⟩

theorem State.takeHeld_keepsBlanking {s : State} (h : s.blankingHolds) : s.takeHeld.blankingHolds := by
  obtain he | ⟨x, rest, -, he⟩ := s.takeHeld_cases
  · rwa [he]
  · rw [he]
    exact State.blankingHolds_modDock (State.answer_keepsBlanking (State.blankingHolds_modDock h _) .dock x) _

theorem State.dockHold_keepsBlanking {s : State} (h : s.blankingHolds) (x : Held) : (s.dockHold x).blankingHolds := by
  have held : (if s.dock.held.length < Config.holdCapacity then
      (s.modDock fun d => { d with held := d.held ++ [x] }).takeHeld else s.discardDock).blankingHolds := by
    split
    · exact State.takeHeld_keepsBlanking (State.blankingHolds_modDock h _)
    · exact State.blankingHolds_modDock h _
  unfold State.dockHold
  cases s.dock.link with
  | down | align | fault => exact h
  | exchange => exact State.blankingHolds_modDock h _
  | ready | uploading => exact held

theorem linkCommand_keepsBlanking {s t : State} {link : Link} {tag : Byte} {c : Command} (h : s.blankingHolds)
    (ht : linkCommand link tag c s = .next t) : t.blankingHolds := by
  refine whenRunning_keepsBlanking h (fun h => ?_) ht
  cases link with
  | van => exact State.vanHold_keepsBlanking h _
  | dock => exact State.dockHold_keepsBlanking h _

/-! ## Messages that arrive as bytes -/

theorem State.vanReceived_keepsBlanking {s : State} (h : s.blankingHolds) (x : Received) : (s.vanReceived x).blankingHolds := by
  cases x with
  | message m =>
    simp only [State.vanReceived, State.vanMessage]
    split
    · exact State.vanHold_keepsBlanking h _
    · exact State.blankingHolds_of_sameRadio h ⟨rfl, rfl⟩
  | badLength => exact State.blankingHolds_of_sameRadio h ⟨rfl, rfl⟩
  | badCrc => exact State.blankingHolds_of_sameRadio h ⟨rfl, rfl⟩

theorem State.vanBytes_keepsBlanking {s : State} (h : s.blankingHolds) (bytes : List Byte) : (s.vanBytes bytes).blankingHolds :=
  foldl_keepsBlanking (fun _ x h => State.blankingHolds_announceDue (State.vanReceived_keepsBlanking h x)) _ _
    (State.blankingHolds_of_sameRadio h ⟨rfl, rfl⟩)

theorem State.dockMessage_keepsBlanking {s : State} (h : s.blankingHolds) (m : Message) : (s.dockMessage m).blankingHolds := by
  unfold State.dockMessage
  split
  · exact State.dockHold_keepsBlanking h _
  · split
    · exact State.blankingHolds_of_sameRadio h ⟨by simp, by simp⟩
    · exact State.blankingHolds_of_sameRadio h ⟨rfl, rfl⟩

theorem State.dockReceived_keepsBlanking {s : State} (h : s.blankingHolds) (x : Received) :
    (s.dockReceived x).blankingHolds := by
  unfold State.dockReceived
  split
  case h_4 => exact State.dockMessage_keepsBlanking h _
  all_goals exact State.blankingHolds_of_sameRadio h ⟨rfl, rfl⟩

theorem State.dockBytes_keepsBlanking {s : State} (h : s.blankingHolds) (bytes : List Byte) :
    (s.dockBytes bytes).blankingHolds :=
  foldl_keepsBlanking (fun _ x h => State.blankingHolds_announceDue (State.dockReceived_keepsBlanking h x)) _ _
    (State.blankingHolds_of_sameRadio h ⟨rfl, rfl⟩)

/-! ## Supply and start-up -/

/-- A channel as a reset leaves it: OFF exactly where its entry disables it, and not BLANKED (R20). -/
theorem Channel.initial_blanksRight (e : PlanEntry) (pin : Bool) (n : ChannelNo) :
    (Channel.initial e pin).blanksRight n false := by
  unfold Channel.blanksRight Channel.enabledHolds Channel.initial
  cases e.enabled <;> simp

/-- Where every channel is as a reset leaves it and the transmitter is IDLE, the invariant holds. -/
theorem State.blankingHolds_of_initial {s : State} (hc : ∀ n : ChannelNo, ∃ e pin, s.channels[n] = .initial e pin)
    (hk : s.tx.state.isKeyed = false) : s.blankingHolds := by
  rw [State.blankingHolds_iff]
  intro n
  obtain ⟨e, pin, he⟩ := hc n
  rw [he, hk]
  exact Channel.initial_blanksRight e pin n

theorem ofFn_channel (f : ChannelNo → Channel) (n : ChannelNo) : (Vector.ofFn f)[n] = f n := by simp

theorem State.loseVolatile_blanking (s : State) : s.loseVolatile.blankingHolds :=
  State.blankingHolds_of_initial (fun _ => ⟨_, _, ofFn_channel _ _⟩) rfl

theorem State.blankingHolds_modSupply {s : State} (h : s.blankingHolds) (f : Supply → Supply) :
    (s.modSupply f).blankingHolds :=
  State.blankingHolds_of_sameRadio h ⟨rfl, rfl⟩

theorem State.stopActivity_blanking (s : State) (m : MonitorState) (k : ResetKind) : (s.stopActivity m k).blankingHolds :=
  State.blankingHolds_modSupply s.loseVolatile_blanking _

theorem State.coldStart_blanking {s : State} (hk : s.tx.state.isKeyed = false) : s.coldStart.blankingHolds :=
  State.blankingHolds_of_initial (fun _ => ⟨_, _, ofFn_channel _ _⟩) hk

theorem State.startMarker_blanking (s : State) : s.startMarker.blankingHolds := by
  refine State.blankingHolds_modSupply ?_ _
  split
  · exact s.loseVolatile_blanking
  · exact State.coldStart_blanking rfl

/-- Every step of start-up but the first leaves the channels and the transmitter's state alone (R194 to R196). -/
theorem State.startStep_sameRadio (s : State) (k : StartStep) (hk : k ≠ .marker) : s.sameRadio (s.startStep k) := by
  cases k with
  | marker => exact absurd rfl hk
  | load =>
    simp only [State.startStep, State.startLoad, State.noteStep]
    split <;> exact ⟨rfl, rfl⟩
  | index =>
    simp only [State.startStep, State.startIndex, State.noteStep]
    split <;> exact ⟨rfl, rfl⟩
  | stops =>
    have hf : ∀ l : List Nat, (l.foldl State.returnStop s).channels = s.channels ∧ (l.foldl State.returnStop s).tx = s.tx :=
      fun l => ⟨foldl_keeps (fun s : State => s.channels) _ (by simp) l s, foldl_keeps (fun s : State => s.tx) _ (by simp) l s⟩
    simp [State.sameRadio, State.startStep, State.startStops, State.noteStep, hf]
  | records => exact ⟨rfl, rfl⟩
  | dwell => exact ⟨rfl, rfl⟩
  | hello =>
    simp only [State.sameRadio, State.startStep, State.startHello, State.beginDock]
    split <;> simp

theorem State.startStep_keepsBlanking {s : State} (h : s.blankingHolds) (k : StartStep) : (s.startStep k).blankingHolds := by
  by_cases hk : k = .marker
  · subst hk
    exact s.startMarker_blanking
  · exact State.blankingHolds_of_sameRadio h (s.startStep_sameRadio k hk)

theorem execSupplyDip_keepsBlanking {s t : State} (h : s.blankingHolds) (ht : execSupplyDip s = .next t) :
    t.blankingHolds := by
  unfold execSupplyDip at ht
  dsimp only at ht
  split at ht <;> rw [Host.Outcome.next.injEq] at ht <;> subst ht
  · exact State.blankingHolds_modSupply (State.stopActivity_blanking _ _ _) _
  · exact State.blankingHolds_modSupply (State.stopActivity_blanking _ _ _) _
  all_goals exact State.blankingHolds_modSupply (State.blankingHolds_modSupply h _) _

theorem execResetNAssert_keepsBlanking {s t : State} (h : s.blankingHolds) (ht : execResetNAssert s = .next t) :
    t.blankingHolds := by
  unfold execResetNAssert at ht
  dsimp only at ht
  split at ht <;> rw [Host.Outcome.next.injEq] at ht <;> subst ht
  · exact State.stopActivity_blanking _ _ _
  · exact State.stopActivity_blanking _ _ _
  all_goals exact State.blankingHolds_modSupply h _

theorem execStartUp_keepsBlanking {s t : State} {upTo : StartStep} (h : s.blankingHolds)
    (ht : execStartUp s upTo = .next t) : t.blankingHolds := by
  unfold execStartUp at ht
  split at ht <;> simp only [State.finish, Host.Outcome.next.injEq] at ht <;> subst ht
  · exact State.blankingHolds_announceDue (foldl_keepsBlanking (fun s k h => State.startStep_keepsBlanking h k) _ _ h)
  all_goals exact h

theorem execOutboundSent_keepsBlanking {s t : State} (h : s.blankingHolds) (ht : execOutboundSent s = .next t) :
    t.blankingHolds := by
  unfold execOutboundSent at ht
  repeat' split at ht
  all_goals simp only [State.finish, Host.Outcome.next.injEq] at ht; subst ht
  case h_5.isFalse.isTrue => exact State.stopActivity_blanking _ _ _
  case h_5.isFalse.isFalse =>
    exact State.blankingHolds_announceDue (State.takeHead_keepsBlanking (State.blankingHolds_announceDue
      (State.blankingHolds_modVan h _)))
  all_goals exact h

/-! ## Every row -/

theorem commandRow_keepsBlanking {s t : State} {i : Instr} {link : Link} {tag : Byte} {c : Command}
    (hi : rowCommand i = some (link, tag, c)) (h : s.blankingHolds) (ht : exec i s = .next t) : t.blankingHolds :=
  linkCommand_keepsBlanking h ((exec_rowCommand hi s).symm.trans ht)

theorem execDockSendDone_keepsBlanking {s t : State} (h : s.blankingHolds) (ht : execDockSendDone s = .next t) :
    t.blankingHolds := by
  refine whenRunning_keepsBlanking h (fun h => ?_) ht
  split
  · exact h
  · refine State.takeHeld_keepsBlanking (State.blankingHolds_modDock ?_ _)
    have hd := State.blankingHolds_modDock h fun d => { d with sending := none }
    generalize (s.modDock fun d => { d with sending := none }) = u at hd ⊢
    refine State.blankingHolds_of_sameRadio hd ?_
    unfold State.sendEnded State.sameRadio
    split <;> simp

theorem execDockMessageArrival_keepsBlanking {s t : State} {bytes : List Byte} (h : s.blankingHolds)
    (ht : execDockMessageArrival bytes s = .next t) : t.blankingHolds := by
  refine whenRunning_keepsBlanking h (fun h => ?_) ht
  cases s.dock.link with
  | down | align | fault => exact h
  | exchange | ready | uploading => exact State.dockBytes_keepsBlanking h bytes

theorem exec_keepsBlanking {s t : State} (i : Instr) (h : s.blankingHolds) (ht : exec i s = .next t) : t.blankingHolds := by
  cases i with
  | loadBegin | loadStops | loadSegment | loadEnd | loadAbort | setProfile | setRouteParams | setDisposition
  | setChannel | readForeign | retireRoute | clearRoute | readStop | openSegment | closeSegment | skipStop | unskipStop
  | readRevisit | readSegment | readRecords | pollStop | pollCancel | txInhibit | txEnable | dockReset | setDock | setClock
  | clockSource | readStatus | readCounters | clearCounters | ackNotice | setNoticeMask | setAttnMode | resetPart =>
    exact commandRow_keepsBlanking rfl h ht
  | syncDetection ch symbols => exact execSyncDetection_keepsBlanking (ch := ch) (symbols := symbols) h ht
  | headerComplete ch a b => exact execHeaderComplete_keepsBlanking (ch := ch) (a := a) (b := b) h ht
  | blockComplete ch fec body crc levels =>
    exact execBlockComplete_keepsBlanking (ch := ch) (fec := fec) (body := body) (crc := crc) (levels := levels) h ht
  | carrierLoss ch => exact execCarrierLoss_keepsBlanking (ch := ch) h ht
  | carrierPresent ch =>
    exact whenRunning_keepsBlanking (State.blankingHolds_setCarrier h ch true) State.blankingHolds_guardWatch ht
  | streamStopped ch => exact execStreamStopped_keepsBlanking (ch := ch) h ht
  | muteHoldExpiry ch => exact execMuteHoldExpiry_keepsBlanking (ch := ch) h ht
  | captureFrame ch => exact execCaptureFrame_keepsBlanking (ch := ch) h ht
  | pollTake => exact execPollTake_keepsBlanking h ht
  | guardComplete => exact execGuardComplete_keepsBlanking h ht
  | clearWaitExpiry => exact execClearWaitExpiry_keepsBlanking h ht
  | burstEnd => exact execBurstEnd_keepsBlanking h ht
  | listenWindowExpiry => exact execListenWindowExpiry_keepsBlanking h ht
  | dockSendDone => exact execDockSendDone_keepsBlanking h ht
  | dockMessageArrival bytes => exact execDockMessageArrival_keepsBlanking (bytes := bytes) h ht
  | vanMessageArrival bytes =>
    exact whenRunning_keepsBlanking (act := fun s => s.vanBytes bytes) h (fun h => State.vanBytes_keepsBlanking h bytes) ht
  | vanMessageDiscard bytes =>
    exact whenRunning_keepsBlanking (act := fun s => s.vanBytes bytes) h (fun h => State.vanBytes_keepsBlanking h bytes) ht
  | outboundSent => exact execOutboundSent_keepsBlanking h ht
  | supplyDip => exact execSupplyDip_keepsBlanking h ht
  | resetNAssert => exact execResetNAssert_keepsBlanking h ht
  | startUp upTo => exact execStartUp_keepsBlanking (upTo := upTo) h ht
  | _ => exact State.blankingHolds_of_sameRadio h (spared_sameRadio rfl ht)

/-! ## One step -/

theorem State.after_keepsBlanking {s : State} (h : s.blankingHolds) (i : Instr) : (s.after i).blankingHolds := by
  unfold State.after
  cases he : exec i s with
  | next t => exact exec_keepsBlanking i h he
  | fault => exact h
  | refused => exact h

/-- A millisecond counts durations alone (R170). -/
theorem State.tickRun_keepsBlanking {s : State} (h : s.blankingHolds) : s.tickRun.blankingHolds := by
  rw [State.blankingHolds_iff] at h ⊢
  intro n
  have hc : s.tickRun.channels[n] = s.channels[n].tick := ofFn_channel _ n
  rw [hc, show s.tickRun.tx.state.isKeyed = s.tx.state.isKeyed from TxState.tick_keyed _ _]
  exact h n

theorem State.count_keepsBlanking {s : State} (h : s.blankingHolds) : s.count.blankingHolds := by
  unfold State.count
  split
  · exact State.tickRun_keepsBlanking h
  · exact State.blankingHolds_modSupply h _
  · exact State.blankingHolds_modSupply h _
  · unfold State.tickStart
    split
    · exact State.blankingHolds_of_sameRadio h ⟨rfl, rfl⟩
    · exact h
  · exact h

theorem step_keepsBlanking {s t : State} (h : s.blankingHolds) (ht : step s = .next t) : t.blankingHolds := by
  unfold step at ht
  split at ht
  · rw [Host.Outcome.next.injEq] at ht
    subst ht
    exact State.count_keepsBlanking (foldl_keepsBlanking (fun _ i h => State.after_keepsBlanking h i) _ s h)
  · rename_i c rest _
    exact exec_keepsBlanking c (State.blankingHolds_of_sameRadio (t := s.withPending rest) h ⟨rfl, rfl⟩) ht

/-- Settles O9: every row and every millisecond keeps, channel by channel, what R9 and R15 ask. -/
theorem blankingIsKept : Obligations.BlankingIsKept := by
  intro s t h ht
  exact step_keepsBlanking h ht

end Blanking

section Reset

/-! ## The machine right after reset -/

/-- Right after reset no start-up is under way (log 5). -/
theorem reset_startingHolds : State.reset.startingHolds := nofun

theorem reset_blankingHolds : State.reset.blankingHolds := by
  refine State.blankingHolds_of_initial (fun n => ⟨.default n, false, ?_⟩) rfl
  revert n
  decide

/-- Settles O12: no cause is pending, every table is empty, HELLO alone is queued and every channel is as a reset leaves it. -/
theorem resetMeetsInvariants : Obligations.ResetMeetsInvariants := by
  have hsettled : State.reset.settled := .inl fun c => by cases c <;> rfl
  have hcapacity : State.reset.withinCapacity := ⟨reset_startingHolds, by decide⟩
  have horder : State.reset.store.wellOrdered :=
    ⟨by decide, by decide, by decide, rfl, List.Pairwise.nil⟩
  have hcounters : State.reset.route.countersExact := by
    rintro (h | h) <;> exact absurd h (by decide)
  have hopen : State.reset.openOrderExact :=
    ⟨List.nodup_nil, by decide, fun _ => rfl, fun n => by simp [State.reset, Route.cold, Tracker.empty]⟩
  have hflight : State.reset.inFlightHolds := ⟨reset_startingHolds, fun _ => by decide⟩
  have hhand : State.reset.inHandHolds :=
    ⟨reset_startingHolds, fun _ => ⟨by decide, fun _ _ => rfl,
      fun i => by simp [State.reset, State.inHand, Route.cold, Capture.initial]⟩⟩
  exact ⟨hsettled, hcapacity, horder, hcounters, hopen, rfl, reset_blankingHolds, hflight, hhand⟩

end Reset


end Sys2Proof.Machine


namespace Sys2Proof.Machine

section Announcing

/-! ## The end of an event -/

variable (s : State)

theorem State.announce_fires {c : Cause} (h : (s.notice c).due = true ∧ s.van.outbound.length < Config.outboundCapacity) :
    s.announce c =
      ((s.queueMessage ((s.notice c).message c)).modNotice c fun n => { n with announced := true }).modVan Van.pulse :=
  if_pos h

/-- The channels and the transmitter exchanged, everything else as it is. -/
def State.withRadio (s : State) (cs : Vector Channel 4) (x : Transmitter) : State := { s with channels := cs, tx := x }

/-- Announcing reads and writes the van link alone, so the channels and the transmitter can be exchanged around it. -/
theorem State.announce_withRadio (c : Cause) (cs : Vector Channel 4) (x : Transmitter) :
    (s.withRadio cs x).announce c = (s.announce c).withRadio cs x := by
  by_cases h : (s.notice c).due = true ∧ s.van.outbound.length < Config.outboundCapacity
  · rw [(s.withRadio cs x).announce_fires h, s.announce_fires h]
    rfl
  · have hi : (s.notice c).due = false ∨ Config.outboundCapacity ≤ s.van.outbound.length := by
      by_contra hn
      rw [not_or, Bool.not_eq_false, Nat.not_le] at hn
      exact h hn
    rw [(s.withRadio cs x).announce_idle c hi, s.announce_idle c hi]

theorem State.announceList_withRadio (cs : Vector Channel 4) (x : Transmitter) : ∀ (l : List Cause) (s : State),
    (s.withRadio cs x).announceList l = (s.announceList l).withRadio cs x
  | [], _ => rfl
  | c :: l, s => by
    change ((s.withRadio cs x).announce c).announceList l = ((s.announce c).announceList l).withRadio cs x
    rw [State.announce_withRadio, State.announceList_withRadio cs x l]

theorem State.announceDue_withRadio (cs : Vector Channel 4) (x : Transmitter) :
    (s.withRadio cs x).announceDue = s.announceDue.withRadio cs x :=
  State.announceList_withRadio cs x _ s

/-- After its announcement a cause is not due, or no place was free (R183). -/
theorem State.announce_done (c : Cause) :
    ((s.announce c).notice c).due = false ∨ Config.outboundCapacity ≤ (s.announce c).van.outbound.length := by
  unfold State.announce
  split
  · refine .inl ?_
    simp [State.notice, State.modNotice, State.queueMessage, Notice.due]
  · rename_i h
    by_cases hd : (s.notice c).due = true
    · exact .inr (Nat.le_of_not_lt fun hl => h ⟨hd, hl⟩)
    · exact .inl (by simpa using hd)

/-- An announcement makes no cause due and frees no place. -/
theorem State.announce_done_of {c e : Cause}
    (h : (s.notice c).due = false ∨ Config.outboundCapacity ≤ s.van.outbound.length) :
    ((s.announce e).notice c).due = false ∨ Config.outboundCapacity ≤ (s.announce e).van.outbound.length := by
  by_cases hi : (s.notice e).due = false ∨ Config.outboundCapacity ≤ s.van.outbound.length
  · rwa [s.announce_idle e hi]
  · have hc : (s.notice c).due = false := h.resolve_right fun hf => hi (.inr hf)
    by_cases he : c = e
    · exact absurd (.inl (he ▸ hc)) hi
    · refine .inl ?_
      have hne : (e.code : Nat) ≠ (c.code : Nat) := by revert he; cases c <;> cases e <;> decide
      unfold State.announce
      split
      · simpa [State.notice, State.modNotice, State.queueMessage, hne] using hc
      · exact hc

theorem State.announceList_done {c : Cause} : ∀ (l : List Cause) (s : State),
    (c ∈ l ∨ (s.notice c).due = false ∨ Config.outboundCapacity ≤ s.van.outbound.length) →
    ((s.announceList l).notice c).due = false ∨ Config.outboundCapacity ≤ (s.announceList l).van.outbound.length
  | [], _, h => h.resolve_left (List.not_mem_nil)
  | e :: l, s, h => by
    refine State.announceList_done l (s.announce e) ?_
    rcases h with h | h
    · rcases List.mem_cons.1 h with rfl | h
      · exact .inr (s.announce_done c)
      · exact .inl h
    · exact .inr (s.announce_done_of h)

/-- The end of an event leaves no due cause beside a free place (R183). -/
theorem State.announceDue_isSettled : s.announceDue.settled := by
  unfold State.announceDue
  by_cases hf : Config.outboundCapacity ≤ (s.announceList Cause.all).van.outbound.length
  · exact .inr hf
  · refine .inl fun c => ?_
    have hc : c ∈ Cause.all := by cases c <;> decide
    exact (State.announceList_done _ s (.inl hc)).resolve_right hf

theorem State.announceDue_twice : s.announceDue.announceDue = s.announceDue :=
  State.announceDue_settled _ s.announceDue_isSettled

theorem State.channels_announceDue : s.announceDue.channels = s.channels := by simp

theorem State.tx_announceDue : s.announceDue.tx = s.tx := by simp

/-- Where ATTN stands as it stood, no NOTICE has pulsed. -/
theorem Van.pulsed_zero_of {v w : Van} (h1 : w.attnPhase = v.attnPhase) (h2 : w.attnOwed = v.attnOwed) : v.pulsed 0 w := by
  unfold Van.pulsed
  rw [h1, h2]
  cases v.attnMode <;> cases v.attnPhase <;> simp

variable {s}

/-- The end of an event that left the van link alone: nothing has occurred. -/
theorem State.changesOnly_of_van {u : State} {ps : List Part} (hv : u.van = s.van) (hf : s.frame (.van :: ps) u) :
    s.changesOnly u.announceDue [] ps :=
  State.changesOnly_announceDue (by simp [hv]) (by rw [hv]; exact s.van.pulsed_zero) (State.raised_nil (by rw [hv])) hf

/-- The end of an event in which one cause has occurred. -/
theorem State.changesOnly_of_occur {u : State} {ps : List Part} {c : Cause} {d : List Byte}
    (hv : u.van = (s.occur c d).van) (hf : s.frame (.van :: ps) u) : s.changesOnly u.announceDue [(c, d)] ps := by
  refine State.changesOnly_announceDue ?_ ?_ (State.raised_occur c d rfl (by rw [hv])) hf
  · simp [hv]
  · rw [hv]
    exact Van.pulsed_zero_of rfl rfl

/-- What an occurrence does to the van link depends on the van link alone. -/
theorem State.occur_van_congr {u : State} (c : Cause) (d : List Byte) (h : u.van = s.van) :
    (u.occur c d).van = (s.occur c d).van := by
  simp only [State.occur, State.modNotice, State.modVan_van, h]

end Announcing

section Guard

/-! ## The guard time -/

/-- The transmitter after CH0 is looked at: the guard time is zero unless CH0 is clear (R133). -/
def Transmitter.guarded (x : Transmitter) (clear : Bool) : Transmitter :=
  { x with
    state := match x.state with
      | .clearing p guard wait => .clearing p (if clear then guard else 0) wait
      | other => other }

theorem State.guardKept_iff {s t : State} : s.guardKept t ↔ t.tx = s.tx.guarded t.channels[(0 : ChannelNo)].clear := Iff.rfl

theorem State.guardWatch_tx (s : State) : s.guardWatch.tx = s.tx.guarded s.channels[(0 : ChannelNo)].clear := by
  unfold State.guardWatch Transmitter.guarded
  cases h : s.tx.state with
  | clearing p g w =>
    cases hc : s.channels[(0 : ChannelNo)].clear <;> simp
    rw [← h]
  | _ =>
    dsimp only
    rw [← h]

theorem State.guardKept_of_guardWatch {s u t : State} (hx : u.tx = s.tx) (hc : t.channels = u.channels)
    (ht : t.tx = u.guardWatch.tx) : s.guardKept t := by
  rw [State.guardKept_iff, ht, State.guardWatch_tx, hx, hc]

end Guard

end Sys2Proof.Machine


namespace Sys2Proof.Machine

section Symbols

/-! ## Symbols in HUNT (R5) -/

variable (s : State) (ch : ChannelNo)

theorem State.guardWatch_eq : s.guardWatch = s.withRadio s.channels (s.tx.guarded s.channels[(0 : ChannelNo)].clear) := by
  have hx := s.guardWatch_tx
  rw [← hx]
  unfold State.guardWatch
  split
  · split <;> rfl
  all_goals rfl

/-- A symbol that completes the sync pattern with carrier present in HUNT (R5). -/
def Channel.detects (c : Channel) (x : Nibble) : Bool :=
  decide (c.decoder = .hunt ∧ c.recent ++ [x] = syncPattern ∧ c.carrier = true)

theorem Channel.detects_iff {c : Channel} {x : Nibble} :
    c.detects x = true ↔ c.decoder = .hunt ∧ c.recent ++ [x] = syncPattern ∧ c.carrier = true := decide_eq_true_iff

theorem Channel.tookSymbol_detects {c : Channel} {x : Nibble} (h : c.detects x = true) :
    c.tookSymbol x = { c with stream := some ⟨0, 2⟩, decoder := .header ⟨c.entry.cdUsed, c.entry.cdHigh⟩ } := by
  obtain ⟨h1, h2, h3⟩ := Channel.detects_iff.1 h
  exact (if_pos h1).trans (if_pos ⟨h2, h3⟩)

theorem Channel.tookSymbol_passes {c : Channel} {x : Nibble} (h : ¬c.detects x = true) :
    c.tookSymbol x =
      { c with
        stream := some ⟨0, 2⟩
        recent := if c.decoder = .hunt then (c.recent ++ [x]).drop ((c.recent ++ [x]).length - 3) else c.recent } := by
  unfold Channel.tookSymbol
  dsimp only
  by_cases hd : c.decoder = .hunt
  · have hn : ¬(c.recent ++ [x] = syncPattern ∧ c.carrier = true) := fun hs => h (Channel.detects_iff.2 ⟨hd, hs⟩)
    rw [if_pos hd, if_pos hd]
    exact if_neg hn
  · rw [if_neg hd, if_neg hd]
    rfl

/-- One symbol changes its channel, and looks at the guard time where it completes a sync detection (R5, R133). -/
theorem State.takeSymbol_eq (x : Nibble) :
    State.takeSymbol ch s x = s.withRadio (s.channels.set ch (s.channels[ch].tookSymbol x))
      (if s.channels[ch].detects x then
        s.tx.guarded (s.channels.set ch (s.channels[ch].tookSymbol x))[(0 : ChannelNo)].clear
      else s.tx) := by
  have hc := s.takeSymbol_channels ch x
  have hr : (s.streamRuns ch).channels[ch] = { s.channels[ch] with stream := some (.start Config.streamStopMs) } := by
    rw [State.streamRuns_channels, channels_set_self]
  by_cases h : s.channels[ch].detects x = true
  · obtain ⟨h1, h2, h3⟩ := Channel.detects_iff.1 h
    rw [if_pos h, ← hc]
    unfold State.takeSymbol
    dsimp only
    rw [if_pos (by rw [hr]; exact h1), if_pos (by rw [hr]; exact ⟨h2, h3⟩), State.guardWatch_eq]
    rfl
  · rw [if_neg h, ← hc]
    unfold State.takeSymbol
    dsimp only
    split
    · rename_i hd
      rw [hr] at hd
      rw [if_neg]
      · rfl
      · rw [hr]
        exact fun hs => h (Channel.detects_iff.2 ⟨hd, hs⟩)
    · rfl

/-- A symbol and the end of an event can be taken in either order: an event reads no channel when it ends. -/
theorem State.takeSymbol_announceDue (x : Nibble) :
    State.takeSymbol ch s.announceDue x = (State.takeSymbol ch s x).announceDue := by
  rw [State.takeSymbol_eq, s.takeSymbol_eq, State.announceDue_withRadio]
  simp only [State.announceDue_frame]

theorem State.foldl_takeSymbol_announceDue (l : List Nibble) :
    (l.foldl (State.takeSymbol ch) s.announceDue).announceDue = (l.foldl (State.takeSymbol ch) s).announceDue := by
  induction l generalizing s with
  | nil => rw [List.foldl_nil, List.foldl_nil, State.announceDue_twice]
  | cons x l ih => rw [List.foldl_cons, List.foldl_cons, State.takeSymbol_announceDue, ih]

theorem execSyncDetection_running (h : s.running = true) (l : List Nibble) :
    execSyncDetection ch s l = .next (l.foldl (State.takeSymbol ch) s).announceDue := by
  rw [execSyncDetection, whenRunning_next, if_pos h]

/-- Symbols act one after another, each an event of its own. -/
theorem execSyncDetection_cons (h : s.running = true) (x : Nibble) (l : List Nibble) :
    execSyncDetection ch s (x :: l) = execSyncDetection ch (State.takeSymbol ch s x).announceDue l := by
  have hr : (State.takeSymbol ch s x).announceDue.running = true := by
    simpa [State.running, State.takeSymbol_eq, State.withRadio] using h
  rw [execSyncDetection_running s ch h, execSyncDetection_running _ ch hr, State.foldl_takeSymbol_announceDue,
    List.foldl_cons]

theorem State.changesOnly_of_withRadio (cs : Vector Channel 4) (x : Transmitter) :
    s.changesOnly (s.withRadio cs x).announceDue [] [.channels, .tx] := by
  refine State.changesOnly_of_van rfl fun b hb => ?_
  cases b <;> simp_all [State.agree, State.withRadio]

/-- The channels after the end of an event in which they and the transmitter were exchanged. -/
theorem State.withRadio_after (cs : Vector Channel 4) (x : Transmitter) :
    (s.withRadio cs x).announceDue.channels = cs ∧ (s.withRadio cs x).announceDue.tx = x := by
  simp [State.withRadio]

/-- While fewer than three symbols are remembered, one more is remembered with them all. -/
theorem Channel.tookSymbol_short {c : Channel} {x : Nibble} (hd : c.decoder = .hunt) (hl : c.recent.length < 3) :
    c.detects x = false ∧ c.tookSymbol x = { c with stream := some ⟨0, 2⟩, recent := c.recent ++ [x] } := by
  have hn : ¬c.detects x = true := by
    intro h
    have hlen := congrArg List.length (Channel.detects_iff.1 h).2.1
    simp [syncPattern] at hlen
    omega
  have hk : (c.recent ++ [x]).length - 3 = 0 := by simp; omega
  refine ⟨by simpa using hn, ?_⟩
  rw [Channel.tookSymbol_passes hn, if_pos hd, hk, List.drop_zero]

/-- A symbol behind others of the same row that ended in no sync detection. -/
theorem State.takeSymbol_withRadio (d : Channel) (x : Nibble) :
    State.takeSymbol ch (s.withRadio (s.channels.set ch d) s.tx) x =
      s.withRadio (s.channels.set ch (d.tookSymbol x))
        (if d.detects x then s.tx.guarded (s.channels.set ch (d.tookSymbol x))[(0 : ChannelNo)].clear else s.tx) := by
  rw [State.takeSymbol_eq]
  simp only [State.withRadio, channels_set_self, Vector.set_set]

/-- A channel that has just entered HUNT with carrier present, after the symbols of the sync pattern (R5). -/
theorem Channel.tookSymbol_pattern {c : Channel} (hd : c.decoder = .hunt) (hr : c.recent = []) (hc : c.carrier = true) :
    c.detects 0xC = false ∧ (c.tookSymbol 0xC).detects 0x3 = false ∧
    ((c.tookSymbol 0xC).tookSymbol 0x3).detects 0x9 = false ∧
    (((c.tookSymbol 0xC).tookSymbol 0x3).tookSymbol 0x9).detects 0x6 = true ∧
    (((c.tookSymbol 0xC).tookSymbol 0x3).tookSymbol 0x9).tookSymbol 0x6 =
      { c with stream := some ⟨0, 2⟩, recent := [0xC, 0x3, 0x9], decoder := .header ⟨c.entry.cdUsed, c.entry.cdHigh⟩ } := by
  obtain ⟨n1, e1⟩ := Channel.tookSymbol_short (x := 0xC) hd (by simp [hr])
  rw [hr] at e1
  obtain ⟨n2, e2⟩ := Channel.tookSymbol_short (c := c.tookSymbol 0xC) (x := 0x3) (by rw [e1]; exact hd)
    (by rw [e1]; simp)
  obtain ⟨n3, e3⟩ := Channel.tookSymbol_short (c := (c.tookSymbol 0xC).tookSymbol 0x3) (x := 0x9)
    (by rw [e2, e1]; exact hd) (by rw [e2, e1]; simp)
  have n4 : (((c.tookSymbol 0xC).tookSymbol 0x3).tookSymbol 0x9).detects 0x6 = true := by
    rw [Channel.detects_iff, e3, e2, e1]
    exact ⟨hd, rfl, hc⟩
  refine ⟨n1, n2, n3, n4, ?_⟩
  rw [Channel.tookSymbol_detects n4, e3, e2, e1]
  rfl

/-- The symbols of the sync pattern right after an entry to HUNT (R5). -/
theorem State.foldl_takeSymbol_pattern (hd : s.channels[ch].decoder = .hunt) (hr : s.channels[ch].recent = [])
    (hc : s.channels[ch].carrier = true) :
    let c := s.channels[ch]
    let cs := s.channels.set ch
      { c with stream := some ⟨0, 2⟩, recent := [0xC, 0x3, 0x9], decoder := .header ⟨c.entry.cdUsed, c.entry.cdHigh⟩ }
    [0xC, 0x3, 0x9, 0x6].foldl (State.takeSymbol ch) s = s.withRadio cs (s.tx.guarded cs[(0 : ChannelNo)].clear) := by
  obtain ⟨n1, n2, n3, n4, e4⟩ := Channel.tookSymbol_pattern hd hr hc
  simp only [List.foldl_cons, List.foldl_nil]
  rw [s.takeSymbol_eq, n1, if_neg Bool.false_ne_true, State.takeSymbol_withRadio, n2, if_neg Bool.false_ne_true,
    State.takeSymbol_withRadio, n3, if_neg Bool.false_ne_true, State.takeSymbol_withRadio, n4, if_pos rfl, e4]

/-- HEADER_COMPLETE in HEADER (R6). -/
theorem execHeaderComplete_header {r : CarrierRule} (hrun : s.running = true) (hd : s.channels[ch].decoder = .header r)
    (length complement : Byte) :
    exec (.headerComplete ch length complement) s = .next
      (if headerGood length complement then
        (s.streamRuns ch).modChannel ch fun c => { c with decoder := .body r length.toNat }
      else (s.streamRuns ch).endAttempt ch .format).announceDue := by
  have hr : (s.streamRuns ch).channels[ch].decoder = .header r := by
    rw [State.streamRuns_channels, channels_set_self]
    exact hd
  change execHeaderComplete ch length complement s = _
  simp only [execHeaderComplete, whenRunning_next, hrun, if_true, hr]

/-- Settles O19: one symbol by its three cases, the pattern by four symbols in turn, and a good header. -/
theorem attemptBegins : Obligations.AttemptBegins := by
  intro ch x more length complement r s hrun
  dsimp only
  refine ⟨?_, ?_, ?_⟩
  · refine ⟨(State.takeSymbol ch s x).announceDue, execSyncDetection_running s ch hrun [x], ?_, ?_, ?_,
      execSyncDetection_cons s ch hrun x more⟩
    · rw [State.takeSymbol_eq]
      obtain ⟨hc, hx⟩ := s.withRadio_after (s.channels.set ch (s.channels[ch].tookSymbol x))
        (if s.channels[ch].detects x then
          s.tx.guarded (s.channels.set ch (s.channels[ch].tookSymbol x))[(0 : ChannelNo)].clear
        else s.tx)
      rw [State.guardKept_iff, hc, hx, channels_set_self]
      split
      · rename_i h
        have h := Channel.detects_iff.2 h
        rw [if_pos h]
        exact ⟨Channel.tookSymbol_detects h, rfl⟩
      · rename_i h
        have h := mt Channel.detects_iff.1 h
        rw [if_neg h]
        exact ⟨Channel.tookSymbol_passes h, rfl⟩
    · rw [State.takeSymbol_eq]
      exact (State.otherChannels_of_set (s.withRadio_after _ _).1).1
    · rw [State.takeSymbol_eq]
      exact s.changesOnly_of_withRadio _ _
  · intro hd hr hc
    refine ⟨_, execSyncDetection_running s ch hrun _, ?_⟩
    rw [s.foldl_takeSymbol_pattern ch hd hr hc]
    have hw := fun cs => s.withRadio_after cs (s.tx.guarded cs[(0 : ChannelNo)].clear)
    refine ⟨(State.otherChannels_of_set (hw _).1).2, ?_, (State.otherChannels_of_set (hw _).1).1,
      s.changesOnly_of_withRadio _ _⟩
    rw [State.guardKept_iff, (hw _).1, (hw _).2]
  · intro hd hcomp hlo hhi
    have hg : headerGood length complement = true := by simp [headerGood, hcomp, hlo, hhi]
    have hc : (((s.streamRuns ch).modChannel ch fun c => { c with decoder := .body r length.toNat }).announceDue).channels =
        s.channels.set ch { s.channels[ch] with stream := some ⟨0, 2⟩, decoder := .body r length.toNat } := by
      rw [State.channels_announceDue, State.modChannel_channels, State.streamRuns_channels, channels_set_self, Vector.set_set]
      rfl
    refine ⟨_, (execHeaderComplete_header s ch hrun hd _ _).trans (by rw [if_pos hg]), (State.otherChannels_of_set hc).2,
      (State.otherChannels_of_set hc).1, State.changesOnly_of_van (by simp) fun b hb => ?_⟩
    cases b <;> simp_all [State.agree]

end Symbols

end Sys2Proof.Machine


namespace Sys2Proof.Machine

section Attempts

/-! ## The end of an attempt (R6 to R8, R12, R13, R18) -/

/-- The errors of the quality window once an outcome is taken into it (R12). -/
def Channel.errorsAfter (c : Channel) (o : DecodeOutcome) : Nat :=
  c.window.errors + (if o = .uncorrectable ∨ o = .checkFail then 1 else 0)

/-- The channel state after an attempt ends, the rows of R13 with their conditions in full. -/
def Channel.stateAfter (c : Channel) (o : DecodeOutcome) : ChannelState :=
  if 64 ≤ c.window.attempts + 1 then
    if (c.state = .active ∨ c.state = .degraded) ∧ c.entry.mute ≤ c.errorsAfter o then .muted
    else if c.state = .active ∧ c.entry.degrade ≤ c.errorsAfter o then .degraded
    else if c.state = .degraded ∧ c.errorsAfter o ≤ c.entry.recover then .active
    else c.state
  else c.state

theorem DecodeOutcome.isError_toNat (o : DecodeOutcome) :
    o.isError.toNat = if o = .uncorrectable ∨ o = .checkFail then 1 else 0 := by
  cases o <;> rfl

theorem ChannelState.afterClose_eq (st : ChannelState) (errors : Nat) (e : PlanEntry) :
    st.afterClose errors e =
      if (st = .active ∨ st = .degraded) ∧ e.mute ≤ errors then .muted
      else if st = .active ∧ e.degrade ≤ errors then .degraded
      else if st = .degraded ∧ errors ≤ e.recover then .active
      else st := by
  cases st <;> simp [ChannelState.afterClose]

/-- A window close field by field (R12, R13, R17, R18). -/
theorem Channel.windowClosed_eq (c : Channel) :
    c.windowClosed = { c with
      state := c.closeState
      window := ⟨0, 0⟩
      entry := c.pendingEntry.getD c.entry
      pendingEntry := none
      muteHold := if c.closeState ≠ c.state ∧ c.closeState = .muted then some ⟨0, 10000⟩ else c.muteHold
      counters := if c.closeState ≠ c.state then (c.moved c.closeState).counters else c.counters } := by
  unfold Channel.windowClosed Channel.adopt
  dsimp only
  by_cases hs : c.closeState = c.state
  · have hm : ¬(c.closeState = .muted ∧ c.state ≠ .muted) := fun h => h.2 (hs ▸ h.1)
    rw [if_pos hs, if_neg hm, if_neg (fun h => h.1 hs), if_neg (fun h => h hs), hs]
  · rw [if_neg hs, if_pos hs]
    by_cases hm : c.closeState = .muted
    · have hn : c.state ≠ .muted := fun h => hs (hm.trans h.symm)
      rw [if_pos ⟨hm, hn⟩, if_pos ⟨hs, hm⟩]
      rfl
    · rw [if_neg fun h => hm h.1, if_neg fun h => hm h.2]
      rfl

theorem Channel.windowClosed_state (c : Channel) : c.windowClosed.state = c.closeState := by
  rw [Channel.windowClosed_eq]

theorem Channel.attemptCounted_closeState (c : Channel) (o : DecodeOutcome) (h : 64 ≤ c.window.attempts + 1) :
    (c.attemptCounted o).closeState = c.stateAfter o := by
  rw [Channel.stateAfter, if_pos h, Channel.errorsAfter, ← DecodeOutcome.isError_toNat]
  exact ChannelState.afterClose_eq _ _ _

theorem Channel.attemptEnded_state (c : Channel) (o : DecodeOutcome) : (c.attemptEnded o).state = c.stateAfter o := by
  unfold Channel.attemptEnded
  split
  · rename_i h
    rw [Channel.windowClosed_state, Channel.attemptCounted_closeState c o h]
  · rename_i h
    exact (if_neg h).symm

/-- Every field of a channel whose attempt has ended. -/
theorem Channel.attemptEnded_fields (c : Channel) (o : DecodeOutcome) :
    let d := c.attemptEnded o
    let closes := 64 ≤ c.window.attempts + 1
    let new := c.stateAfter o
    let counted := c.counters.count o
    d.decoder = .hunt ∧ d.recent = [] ∧ d.cdPin = c.cdPin ∧ d.stream = c.stream ∧
    (d.window = if closes then ⟨0, 0⟩ else ⟨c.window.attempts + 1, c.errorsAfter o⟩) ∧
    (d.entry = if closes then c.pendingEntry.getD c.entry else c.entry) ∧
    (d.pendingEntry = if closes then none else c.pendingEntry) ∧
    (d.muteHold = if new ≠ c.state ∧ new = .muted then some ⟨0, 10000⟩ else c.muteHold) ∧
    (d.counters = if new ≠ c.state then
        { counted with
          stateChanges := counted.stateChanges + 1
          wasDegraded := counted.wasDegraded || new == .degraded
          wasMuted := counted.wasMuted || new == .muted }
      else counted) := by
  dsimp only
  by_cases h : 64 ≤ c.window.attempts + 1
  · have hs := Channel.attemptCounted_closeState c o h
    have he : c.attemptEnded o = (c.attemptCounted o).windowClosed := if_pos h
    rw [he, Channel.windowClosed_eq, hs, if_pos h, if_pos h, if_pos h]
    exact ⟨rfl, rfl, rfl, rfl, rfl, rfl, rfl, rfl, rfl⟩
  · have he : c.attemptEnded o = c.attemptCounted o := if_neg h
    have hn : c.stateAfter o = c.state := if_neg h
    rw [he, hn]
    simp [h, Channel.attemptCounted, Channel.errorsAfter, DecodeOutcome.isError_toNat]

variable (s : State) (ch : ChannelNo)

theorem State.guardWatch_van : s.guardWatch.van = s.van := by simp

/-- The detail of CHANNEL_STATE: channel, old state, new state (R18, R210). -/
def channelStateDetail (ch : ChannelNo) (old new : ChannelState) : List Byte := u8 ch.val ++ u8 old.code ++ u8 new.code

theorem State.setChannelState_van (new : ChannelState) :
    (s.setChannelState ch new).van = (s.occur .channelState (channelStateDetail ch s.channels[ch].state new)).van := rfl

theorem State.closeWindow_van :
    (s.closeWindow ch).van = if s.channels[ch].closeState = s.channels[ch].state then s.van
      else (s.occur .channelState (channelStateDetail ch s.channels[ch].state s.channels[ch].closeState)).van := by
  rw [← State.setChannelState_van, ← apply_ite State.van]
  unfold State.closeWindow
  dsimp only
  simp only [State.modChannel_frame]
  split <;> simp <;> rfl

/-- The end of an attempt raises CHANNEL_STATE exactly where the state changes (R18). -/
theorem State.endAttempt_van (o : DecodeOutcome) :
    (s.endAttempt ch o).van = if s.channels[ch].stateAfter o = s.channels[ch].state then s.van
      else (s.occur .channelState (channelStateDetail ch s.channels[ch].state (s.channels[ch].stateAfter o))).van := by
  unfold State.endAttempt
  dsimp only
  rw [State.guardWatch_van]
  have hu : (s.modChannel ch fun c => c.attemptCounted o).channels[ch] = s.channels[ch].attemptCounted o := by
    rw [State.modChannel_channels, channels_set_self]
  change (if 64 ≤ ((s.modChannel ch fun c => c.attemptCounted o).channels[ch]).window.attempts then
    (s.modChannel ch fun c => c.attemptCounted o).closeWindow ch else s.modChannel ch fun c => c.attemptCounted o).van = _
  rw [hu]
  split
  · rename_i h
    rw [State.closeWindow_van, hu, Channel.attemptCounted_closeState _ _ h]
    rfl
  · rename_i h
    have hn : s.channels[ch].stateAfter o = s.channels[ch].state := if_neg h
    rw [if_pos hn]
    rfl

theorem State.endAttempt_guardKept (o : DecodeOutcome) : s.guardKept (s.endAttempt ch o) := by
  unfold State.endAttempt
  dsimp only
  refine State.guardKept_of_guardWatch ?_ (by simp) rfl
  split <;> simp

/-- What has occurred by the end of an attempt (R18). -/
def State.attemptNotices (ch : ChannelNo) (o : DecodeOutcome) : List (Cause × List Byte) :=
  let c := s.channels[ch]
  if c.stateAfter o ≠ c.state then [(.channelState, channelStateDetail ch c.state (c.stateAfter o))] else []

variable {s ch}

/-- The end of an event that ended an attempt and may have handed its frame on. `c` is the channel as the row found it, with the pin
or the stream as the row left it. -/
theorem State.attempt_after {c : Channel} {o : DecodeOutcome} {u : State} (f : Capture → Capture)
    (hu : u = s.withRadio (s.channels.set ch c) s.tx) (hst : c.state = s.channels[ch].state)
    (hnew : c.stateAfter o = s.channels[ch].stateAfter o) :
    let t := ((u.endAttempt ch o).modCapture f).announceDue
    t.channels[ch] = c.attemptEnded o ∧ s.otherChannels ch t ∧ s.guardKept t ∧
      s.changesOnly t (s.attemptNotices ch o) [.channels, .capture, .tx] := by
  dsimp only
  have hc : u.channels[ch] = c := by rw [hu]; exact channels_set_self _ _ _
  have hcs : (((u.endAttempt ch o).modCapture f).announceDue).channels = s.channels.set ch (c.attemptEnded o) := by
    rw [State.channels_announceDue, State.modCapture_channels, State.endAttempt_channels, hc, hu]
    simp [State.withRadio]
  have hv : ((u.endAttempt ch o).modCapture f).van = if s.channels[ch].stateAfter o = s.channels[ch].state then s.van
      else (s.occur .channelState (channelStateDetail ch s.channels[ch].state (s.channels[ch].stateAfter o))).van := by
    have huv : u.van = s.van := by rw [hu]; rfl
    rw [State.modCapture_van, State.endAttempt_van, hc, hst, hnew, huv, State.occur_van_congr _ _ huv]
  have hf : s.frame [.van, .channels, .capture, .tx] ((u.endAttempt ch o).modCapture f) := by
    intro b hb
    cases b <;> simp_all [State.agree, State.withRadio]
  refine ⟨(State.otherChannels_of_set hcs).2, (State.otherChannels_of_set hcs).1, ?_, ?_⟩
  · have hg := State.guardKept_iff.1 (u.endAttempt_guardKept ch o)
    rw [State.guardKept_iff, State.channels_announceDue, State.tx_announceDue, State.modCapture_channels, State.modCapture_tx,
      hg, hu]
    rfl
  · unfold State.attemptNotices
    dsimp only
    split
    · rename_i h
      rw [if_neg h] at hv
      exact State.changesOnly_of_occur hv hf
    · rename_i h
      rw [if_pos (not_not.1 h)] at hv
      exact State.changesOnly_of_van hv hf

end Attempts
end Sys2Proof.Machine


namespace Sys2Proof.Machine

section Endings

/-! ## The rows that end an attempt (R6 to R8) -/

/-- CDn after a row that ends an attempt: a loss of carrier moves it, by the rule in force (R4, R17). -/
def pinAfter (i : Instr) (c : Channel) : Bool :=
  match i with
  | .carrierLoss _ => !c.rule.cdHigh
  | _ => c.cdPin

/-- The stream after a row that ends an attempt: header and block show edges (R4). -/
def streamAfter (i : Instr) (c : Channel) : Option Timer :=
  match i with
  | .carrierLoss _ => c.stream
  | .streamStopped _ => none
  | _ => some ⟨0, 2⟩

/-- What BLOCK_COMPLETE hands on to capture (R10); `d` is the channel as the outcome has left it. -/
def handedTo (ch : ChannelNo) (d : Channel) (o : DecodeOutcome) (fec : Fec) (body : List Byte) (levels : List (BitVec 7))
    (k : Capture) : Capture :=
  if (o = .clean ∨ o = .corrected) ∧ (d.state = .active ∨ d.state = .degraded) then
    match frameKindOf (byteAt body 0) with
    | some kind => { k with handedOn := k.handedOn ++ [frameOf ch d fec body levels kind] }
    | none => k
  else k

/-- What a row that ends an attempt hands on. -/
def capturedBy (i : Instr) (ch : ChannelNo) (d : Channel) (o : DecodeOutcome) : Capture → Capture :=
  match i with
  | .blockComplete _ fec body _ levels => handedTo ch d o fec body levels
  | _ => id

/-- The channel as a row that ends its attempt finds it, with the pin and the stream as the row leaves them. -/
def Channel.atEnd (c : Channel) (i : Instr) : Channel := { c with cdPin := pinAfter i c, stream := streamAfter i c }

variable {s : State} {ch : ChannelNo}

theorem State.handOn_eq (u : State) (fec : Fec) (body : List Byte) (levels : List (BitVec 7)) (o : DecodeOutcome)
    (ho : o = .clean ∨ o = .corrected) :
    u.handOn ch fec body levels = u.modCapture (handedTo ch u.channels[ch] o fec body levels) := by
  unfold State.handOn
  dsimp only
  generalize hd : u.channels[ch] = d
  unfold handedTo State.modCapture
  cases frameKindOf (byteAt body 0) <;> cases d.state <;> simp [ho]

theorem execBlockComplete_body {r : CarrierRule} {fec : Fec} {body : List Byte} (hrun : s.running = true)
    (hd : s.channels[ch].decoder = .body r body.length) (crc : Word16) (levels : List (BitVec 7)) :
    let o := blockOutcome fec body crc
    let u := s.streamRuns ch
    execBlockComplete ch fec body crc levels s =
      .next ((u.endAttempt ch o).modCapture (handedTo ch (u.channels[ch].attemptEnded o) o fec body levels)).announceDue := by
  dsimp only
  have hr : (s.streamRuns ch).channels[ch].decoder = .body r body.length := by
    rw [State.streamRuns_channels, channels_set_self]
    exact hd
  have he : ((s.streamRuns ch).endAttempt ch (blockOutcome fec body crc)).channels[ch] =
      (s.streamRuns ch).channels[ch].attemptEnded (blockOutcome fec body crc) := by
    rw [State.endAttempt_channels, channels_set_self]
  simp only [execBlockComplete, whenRunning_next, hrun, if_true, hr]
  rw [← he]
  cases ho : blockOutcome fec body crc with
  | clean => exact congrArg (fun u : State => Host.Outcome.next u.announceDue) (State.handOn_eq _ _ _ _ _ (.inl rfl))
  | corrected => exact congrArg (fun u : State => Host.Outcome.next u.announceDue) (State.handOn_eq _ _ _ _ _ (.inr rfl))
  | uncorrectable | checkFail | format | syncLoss => rfl

theorem execCarrierLoss_ends (hrun : s.running = true) (h : s.channels[ch].losesCarrier = true) :
    execCarrierLoss ch s = .next ((s.setCarrier ch false).endAttempt ch .syncLoss).announceDue := by
  have hc : (s.setCarrier ch false).channels[ch] = { s.channels[ch] with cdPin := s.channels[ch].rule.cdHigh == false } := by
    rw [State.setCarrier_channels, channels_set_self]
  have hl : (s.setCarrier ch false).channels[ch].decoder.inProgress = true ∧
      (s.setCarrier ch false).channels[ch].rule.cdUsed = true := by
    rw [hc]
    exact Bool.and_eq_true_iff.1 h
  rw [execCarrierLoss, whenRunning_next, if_pos (show (s.setCarrier ch false).running = true from hrun)]
  dsimp only
  rw [if_pos hl]

theorem execStreamStopped_ends (hrun : s.running = true) (hs : s.channels[ch].stream.any (·.due) = true)
    (h : s.channels[ch].decoder.inProgress = true) :
    execStreamStopped ch s = .next ((s.modChannel ch fun c => { c with stream := none }).endAttempt ch .syncLoss).announceDue := by
  have hp : (s.modChannel ch fun c => { c with stream := none }).channels[ch].decoder.inProgress = true := by
    rw [State.modChannel_channels, channels_set_self]
    exact h
  rw [execStreamStopped, whenRunning_next, if_pos hrun, if_pos hs]
  dsimp only
  rw [if_pos hp]

/-- Every row that ends an attempt does so by `endAttempt`, and hands on at most its frame. -/
theorem exec_ends {i : Instr} {o : DecodeOutcome} (hrun : s.running = true) (h : s.ends i = some (ch, o)) :
    let c := s.channels[ch].atEnd i
    exec i s = .next (((s.withRadio (s.channels.set ch c) s.tx).endAttempt ch o).modCapture
      (capturedBy i ch (c.attemptEnded o) o)).announceDue := by
  cases i with
  | headerComplete n length complement =>
    simp only [State.ends] at h
    split at h
    · rename_i r hd
      split at h
      · cases h
      · rename_i hg
        obtain ⟨rfl, rfl⟩ := Prod.mk.inj (Option.some.inj h)
        exact (execHeaderComplete_header s n hrun hd length complement).trans (by rw [if_neg hg]; rfl)
    · cases h
  | blockComplete n fec body crc levels =>
    simp only [State.ends] at h
    split at h
    · rename_i r m hd
      split at h
      · rename_i hm
        subst hm
        obtain ⟨rfl, rfl⟩ := Prod.mk.inj (Option.some.inj h)
        change execBlockComplete n fec body crc levels s = _
        rw [execBlockComplete_body hrun hd crc levels, State.streamRuns_channels, channels_set_self]
        rfl
      · cases h
    · cases h
  | carrierLoss n =>
    simp only [State.ends] at h
    split at h
    · rename_i hl
      obtain ⟨rfl, rfl⟩ := Prod.mk.inj (Option.some.inj h)
      change execCarrierLoss n s = _
      have hpin : (s.channels[n].rule.cdHigh == false) = !s.channels[n].rule.cdHigh := by
        cases s.channels[n].rule.cdHigh <;> rfl
      have hu : s.setCarrier n false = s.withRadio (s.channels.set n (s.channels[n].atEnd (.carrierLoss n))) s.tx := by
        unfold Channel.atEnd pinAfter
        dsimp only
        rw [← hpin]
        rfl
      rw [execCarrierLoss_ends hrun hl, hu]
      rfl
    · cases h
  | streamStopped n =>
    simp only [State.ends] at h
    split at h
    · rename_i hl
      obtain ⟨rfl, rfl⟩ := Prod.mk.inj (Option.some.inj h)
      rw [Bool.and_eq_true] at hl
      exact execStreamStopped_ends hrun hl.1 hl.2
    · cases h
  | _ => nomatch h

/-- A body with a CLEAN or CORRECTED outcome has one of the three kinds (R2, R7). -/
theorem frameKind_of_blockOutcome {fec : Fec} {body : List Byte} {crc : Word16}
    (h : blockOutcome fec body crc = .clean ∨ blockOutcome fec body crc = .corrected) :
    ∃ kind, frameKindOf (byteAt body 0) = some kind := by
  cases hk : frameKindOf (byteAt body 0) with
  | some kind => exact ⟨kind, rfl⟩
  | none =>
    simp only [blockOutcome, hk, true_or, if_true] at h
    split at h
    · simp at h
    · split at h <;> simp at h

/-- What R10 says of the frame handed on: its fields, from the body and from the channel as the outcome has left it. -/
theorem handedTo_spec {d : Channel} {o : DecodeOutcome} {fec : Fec} {body : List Byte} {levels : List (BitVec 7)}
    {new : ChannelState} {k k' : Capture} (hnew : d.state = new)
    (hkind : o = .clean ∨ o = .corrected → ∃ kind, frameKindOf (byteAt body 0) = some kind)
    (hk : k' = handedTo ch d o fec body levels k) :
    if (o = .clean ∨ o = .corrected) ∧ (new = .active ∨ new = .degraded) then
      ∃ f, k' = { k with handedOn := k.handedOn ++ [f] } ∧ f.channel = ch ∧ f.tag = d.entry.tag ∧
        (f.fromActive = true ↔ new = .active) ∧ f.corrections = fecCorrections fec ∧
        f.level = levels.foldl (fun m x => max m x.toNat) 0 ∧ frameKindOf (byteAt body 0) = some f.kind ∧
        f.meterId = word32 (byteAt body 1) (byteAt body 2) (byteAt body 3) (byteAt body 4) ∧
        f.reading = word32 (byteAt body 5) (byteAt body 6) (byteAt body 7) (byteAt body 8) ∧
        f.flags = .ofByte (byteAt body 9) ∧ f.sequence = byteAt body 10 ∧
        f.token = if f.kind = .reply then some (byteAt body 11) else none
    else k' = k := by
  subst hnew hk
  unfold handedTo
  split
  · rename_i h
    obtain ⟨kind, hkind⟩ := hkind h.1
    rw [hkind]
    exact ⟨frameOf ch d fec body levels kind, rfl, rfl, rfl, beq_iff_eq, rfl, rfl, rfl, rfl, rfl, rfl, rfl, rfl⟩
  · rfl

/-- The outcome of a whole block is that of R7. -/
theorem State.ends_blockComplete {n : ChannelNo} {fec : Fec} {body : List Byte} {crc : Word16} {levels : List (BitVec 7)}
    {o : DecodeOutcome} (h : s.ends (.blockComplete n fec body crc levels) = some (ch, o)) : o = blockOutcome fec body crc := by
  simp only [State.ends] at h
  repeat' split at h
  all_goals simp_all

/-- Settles O20: the four rows that end an attempt do so by one operation, whose channel is described field by field. -/
theorem attemptEnds : Obligations.AttemptEnds := by
  intro i s ch o hrun hends
  have hex := exec_ends hrun hends
  dsimp only at hex
  obtain ⟨hd, hother, hguard, honly⟩ := State.attempt_after (s := s) (c := s.channels[ch].atEnd i) (o := o)
    (capturedBy i ch ((s.channels[ch].atEnd i).attemptEnded o) o) rfl rfl rfl
  have hcap : ((((s.withRadio (s.channels.set ch (s.channels[ch].atEnd i)) s.tx).endAttempt ch o).modCapture
      (capturedBy i ch ((s.channels[ch].atEnd i).attemptEnded o) o)).announceDue).capture =
        capturedBy i ch ((s.channels[ch].atEnd i).attemptEnded o) o s.capture := by simp [State.withRadio]
  refine ⟨_, hex, ?_⟩
  generalize (((s.withRadio (s.channels.set ch (s.channels[ch].atEnd i)) s.tx).endAttempt ch o).modCapture
      (capturedBy i ch ((s.channels[ch].atEnd i).attemptEnded o) o)).announceDue = t at *
  obtain ⟨h1, h2, h3, h4, h5, h6, h7, h8, h9⟩ := (s.channels[ch].atEnd i).attemptEnded_fields o
  have hstate := (s.channels[ch].atEnd i).attemptEnded_state o
  dsimp only
  rw [← hd] at h1 h2 h3 h4 h5 h6 h7 h8 h9 hstate hcap
  refine ⟨h1, h2, hstate, h3, h4, h5, h6, h7, h8, h9, ?_, hother, hguard, honly⟩
  cases i with
  | blockComplete n fec body crc levels =>
    exact handedTo_spec (d := t.channels[ch]) hstate
      (fun hc => frameKind_of_blockOutcome (by rwa [← State.ends_blockComplete hends])) hcap
  | _ => exact hcap

end Endings
end Sys2Proof.Machine


namespace Sys2Proof.Machine

section OutsideAttempts

/-! ## Carrier rows, stream stop and mute hold (R4, R14) -/

variable {s : State} {ch : ChannelNo}

/-- An event that leaves the van link alone, without the end that announces: nothing has occurred. -/
theorem State.changesOnly_unannounced {u : State} {ps : List Part} (hv : u.van = s.van) (hf : s.frame (.van :: ps) u) :
    s.changesOnly u [] ps := by
  refine ⟨⟨⟨[], by simp [hv], by simp, by rw [hv]; exact s.van.pulsed_zero⟩, ?_, by rw [hv]⟩, State.raised_nil (by rw [hv]), hf⟩
  rw [hv]
  exact ⟨rfl, rfl, rfl, rfl⟩

/-- One channel exchanged: what the statements about single channels read of the outcome. -/
theorem State.oneChannel_after (d : Channel) :
    (s.withRadio (s.channels.set ch d) s.tx).announceDue.channels[ch] = d ∧
      s.otherChannels ch (s.withRadio (s.channels.set ch d) s.tx).announceDue ∧
      s.changesOnly (s.withRadio (s.channels.set ch d) s.tx).announceDue [] [.channels] := by
  have hc := (s.withRadio_after (s.channels.set ch d) s.tx).1
  refine ⟨(State.otherChannels_of_set hc).2, (State.otherChannels_of_set hc).1, State.changesOnly_of_van rfl fun b hb => ?_⟩
  cases b <;> simp_all [State.agree, State.withRadio]

theorem State.setCarrier_eq (present : Bool) :
    s.setCarrier ch present = s.withRadio (s.channels.set ch
      { s.channels[ch] with cdPin := if present then s.channels[ch].rule.cdHigh else !s.channels[ch].rule.cdHigh }) s.tx := by
  have hb : ∀ b : Bool, (b == present) = if present then b else !b := by cases present <;> simp
  rw [← hb]
  rfl

theorem carrierPresent_spec : ∃ t, exec (.carrierPresent ch) s = .next t ∧
    t.channels[ch] = { s.channels[ch] with cdPin := s.channels[ch].rule.cdHigh } ∧ s.otherChannels ch t ∧
    (if s.running = true then s.guardKept t ∧ s.changesOnly t [] [.channels, .tx] else s.frame [.channels] t) := by
  change ∃ t, whenRunning (s.setCarrier ch true) State.guardWatch = .next t ∧ _
  rw [whenRunning_next, State.setCarrier_eq, if_pos rfl, State.guardWatch_eq]
  generalize hcs : s.channels.set ch { s.channels[ch] with cdPin := s.channels[ch].rule.cdHigh } = cs
  change ∃ t, Host.Outcome.next (if s.running = true then
    (s.withRadio cs (s.tx.guarded cs[(0 : ChannelNo)].clear)).announceDue else s.withRadio cs s.tx) = .next t ∧ _
  refine ⟨_, rfl, ?_⟩
  by_cases hrun : s.running = true
  · rw [if_pos hrun, if_pos hrun]
    obtain ⟨hc, hx⟩ := s.withRadio_after cs (s.tx.guarded cs[(0 : ChannelNo)].clear)
    have ho := State.otherChannels_of_set (hc.trans hcs.symm)
    refine ⟨ho.2, ho.1, ?_, s.changesOnly_of_withRadio _ _⟩
    rw [State.guardKept_iff, hc, hx]
  · rw [if_neg hrun, if_neg hrun]
    have ho := State.otherChannels_of_set (t := s.withRadio cs s.tx) hcs.symm
    refine ⟨ho.2, ho.1, fun b hb => ?_⟩
    cases b <;> simp_all [State.agree, State.withRadio]

theorem carrierLoss_spec (h : ¬(s.running = true ∧ s.channels[ch].losesCarrier = true)) :
    ∃ t, exec (.carrierLoss ch) s = .next t ∧
      t.channels[ch] = { s.channels[ch] with cdPin := !s.channels[ch].rule.cdHigh } ∧ s.otherChannels ch t ∧
      s.changesOnly t [] [.channels] := by
  change ∃ t, execCarrierLoss ch s = .next t ∧ _
  rw [execCarrierLoss, whenRunning_next, State.setCarrier_eq, if_neg Bool.false_ne_true]
  generalize hd : ({ s.channels[ch] with cdPin := !s.channels[ch].rule.cdHigh } : Channel) = d
  refine ⟨_, rfl, ?_⟩
  by_cases hrun : s.running = true
  · have hl : ¬((s.withRadio (s.channels.set ch d) s.tx).channels[ch].decoder.inProgress = true ∧
        (s.withRadio (s.channels.set ch d) s.tx).channels[ch].rule.cdUsed = true) := by
      change ¬((s.channels.set ch d)[ch].decoder.inProgress = true ∧ (s.channels.set ch d)[ch].rule.cdUsed = true)
      rw [channels_set_self, ← hd]
      exact fun hl => h ⟨hrun, Bool.and_eq_true_iff.2 hl⟩
    rw [if_pos (show (s.withRadio (s.channels.set ch d) s.tx).running = true from hrun), if_neg hl]
    exact State.oneChannel_after d
  · rw [if_neg (show ¬(s.withRadio (s.channels.set ch d) s.tx).running = true from hrun)]
    have ho := State.otherChannels_of_set (t := s.withRadio (s.channels.set ch d) s.tx) (s := s) rfl
    refine ⟨ho.2, ho.1, State.changesOnly_unannounced rfl fun b hb => ?_⟩
    cases b <;> simp_all [State.agree, State.withRadio]

theorem streamStopped_quiet {watch : Timer} (hrun : s.running = true) (hs : s.channels[ch].stream = some watch)
    (hdue : watch.limit ≤ watch.elapsed) (hp : s.channels[ch].decoder.inProgress = false) :
    ∃ t, exec (.streamStopped ch) s = .next t ∧
      t.channels[ch] = { s.channels[ch] with stream := none } ∧ s.otherChannels ch t ∧ s.changesOnly t [] [.channels] := by
  have hd : s.channels[ch].stream.any (·.due) = true := by rw [hs]; simpa [Timer.due] using hdue
  have hp' : ¬(s.modChannel ch fun c => { c with stream := none }).channels[ch].decoder.inProgress = true := by
    rw [State.modChannel_channels, channels_set_self]
    simpa using hp
  change ∃ t, execStreamStopped ch s = .next t ∧ _
  rw [execStreamStopped, whenRunning_next, if_pos hrun, if_pos hd]
  dsimp only
  rw [if_neg hp']
  exact ⟨_, rfl, State.oneChannel_after _⟩

theorem streamStopped_early {watch : Timer} (hrun : s.running = true) (hs : s.channels[ch].stream = some watch)
    (hdue : watch.elapsed < watch.limit) : ∃ t, exec (.streamStopped ch) s = .next t ∧ s.changesOnly t [] [] := by
  have hd : ¬s.channels[ch].stream.any (·.due) = true := by rw [hs]; simpa [Timer.due] using hdue
  change ∃ t, execStreamStopped ch s = .next t ∧ _
  rw [execStreamStopped, whenRunning_next, if_pos hrun, if_neg hd]
  refine ⟨_, rfl, State.changesOnly_of_van rfl fun b hb => ?_⟩
  cases b <;> rfl

/-- A channel whose mute hold has ended (R14). -/
def State.muteEnded (s : State) (ch : ChannelNo) : State :=
  (s.setChannelState ch .degraded).modChannel ch fun c => { c with muteHold := none, window := ⟨0, 0⟩ }.adopt

theorem State.muteEnded_channels : (s.muteEnded ch).channels =
    s.channels.set ch { s.channels[ch].moved .degraded with muteHold := none, window := ⟨0, 0⟩ }.adopt := by
  rw [State.muteEnded, State.modChannel_channels, State.setChannelState_channels, channels_set_self, Vector.set_set]

theorem State.muteEnded_van : (s.muteEnded ch).van =
    (s.occur .channelState (channelStateDetail ch s.channels[ch].state .degraded)).van := rfl

theorem State.muteEnded_tx : (s.muteEnded ch).tx = s.tx := rfl

theorem State.muteEnded_frame : s.frame [.van, .channels] (s.muteEnded ch) := by
  intro b hb
  cases b <;> simp_all [State.agree, State.muteEnded]

theorem execMuteHoldExpiry_due (hrun : s.running = true)
    (h : s.channels[ch].state = .muted ∧ s.channels[ch].muteHold.any (·.due) = true) :
    exec (.muteHoldExpiry ch) s = .next (s.muteEnded ch).guardWatch.announceDue := by
  change execMuteHoldExpiry ch s = _
  rw [execMuteHoldExpiry, whenRunning_next, if_pos hrun, if_pos h]
  rfl

theorem muteHoldExpiry_spec {hold : Timer} (hrun : s.running = true) (hm : s.channels[ch].state = .muted)
    (hh : s.channels[ch].muteHold = some hold) (hdue : hold.limit ≤ hold.elapsed) :
    ∃ t, exec (.muteHoldExpiry ch) s = .next t ∧
      t.channels[ch] = { s.channels[ch] with
        state := .degraded
        window := ⟨0, 0⟩
        muteHold := none
        entry := s.channels[ch].pendingEntry.getD s.channels[ch].entry
        pendingEntry := none
        counters := { s.channels[ch].counters with
          stateChanges := s.channels[ch].counters.stateChanges + 1, wasDegraded := true } } ∧
      s.otherChannels ch t ∧ s.guardKept t ∧
      s.changesOnly t [(.channelState, u8 ch.val ++ [3, 2])] [.channels, .tx] := by
  have hd : s.channels[ch].state = .muted ∧ s.channels[ch].muteHold.any (·.due) = true := by
    rw [hh]
    exact ⟨hm, by simpa [Timer.due] using hdue⟩
  refine ⟨_, execMuteHoldExpiry_due hrun hd, ?_⟩
  have hc : (s.muteEnded ch).guardWatch.announceDue.channels = (s.muteEnded ch).channels := by simp
  have hx : (s.muteEnded ch).guardWatch.announceDue.tx = (s.muteEnded ch).guardWatch.tx := by simp
  have hv := (s.muteEnded ch).guardWatch_van.trans State.muteEnded_van
  rw [hm] at hv
  have ho := State.otherChannels_of_set (hc.trans State.muteEnded_channels)
  refine ⟨ho.2.trans ?_, ho.1, State.guardKept_of_guardWatch State.muteEnded_tx hc hx,
    State.changesOnly_of_occur hv fun b hb => ?_⟩
  · simp [Channel.adopt, Channel.moved]
  · have hf := State.muteEnded_frame (s := s) (ch := ch) b
    cases b <;> simp_all [State.agree]

/-- Settles O21, row by row. -/
theorem channelEventsOutsideAttempts : Obligations.ChannelEventsOutsideAttempts := by
  intro ch watch hold s
  exact ⟨carrierPresent_spec, carrierLoss_spec,
    fun hrun hs => ⟨streamStopped_quiet hrun hs, streamStopped_early hrun hs⟩,
    fun hrun hm hh hdue => muteHoldExpiry_spec hrun hm hh hdue⟩

end OutsideAttempts
end Sys2Proof.Machine


namespace Sys2Proof.Machine

section Completing

/-! ## Commands taken at once on the van link -/

variable {s : State} {kind tag : Byte} {r : State × Answer} {ps : List Part}

/-- A command acted on without an occurrence, and answered. -/
theorem State.completes_of_van (hs : s.ready) (hv : r.1.van = s.taking.van) (hf : s.frame (.van :: ps) r.1) :
    s.completes (answered kind tag r) kind tag r.2 [] ps := by
  obtain ⟨-, hh, -, hp⟩ := hs
  refine completes_answered s ?_ (State.raised_nil (by rw [hv]; rfl)) (by rw [hv]; rfl) ?_ (by rw [hv]; rfl) hf
  · rw [hv]
    exact ⟨rfl, hh, rfl, hp⟩
  · rw [hv]
    exact Van.pulsed_zero_of rfl rfl

/-- A command acted on in which one cause occurred, and answered. -/
theorem State.completes_of_occur {c : Cause} {d : List Byte} (hs : s.ready) (hv : r.1.van = (s.taking.occur c d).van)
    (hf : s.frame (.van :: ps) r.1) : s.completes (answered kind tag r) kind tag r.2 [(c, d)] ps := by
  obtain ⟨-, hh, -, hp⟩ := hs
  refine completes_answered s ?_ (State.raised_occur (u := s.taking) c d rfl (by rw [hv])) (by rw [hv]; rfl) ?_ (by rw [hv]; rfl) hf
  · rw [hv]
    exact ⟨rfl, hh, rfl, hp⟩
  · rw [hv]
    exact Van.pulsed_zero_of rfl rfl

/-- The state in which a command acts differs from the one in which it arrived by one counter of the van link. -/
theorem State.taking_frame : s.frame [.van] s.taking := by
  intro b hb
  cases b <;> simp_all [State.agree, State.taking, State.countVan, State.modVan]

end Completing

section SetChannel

/-! ## SET_CHANNEL (R15 to R17) -/

variable (b : SetChannelBody)

/-- The fields of SET_CHANNEL in their ranges, and the thresholds in order (R16). -/
def setChannelFits : Prop :=
  b.channel.toNat ≤ 3 ∧ b.enabled.toNat ≤ 1 ∧ b.cdUsed.toNat ≤ 1 ∧ b.cdPolarity.toNat ≤ 1 ∧ b.tag.toNat ≤ 15 ∧
    b.degrade.toNat ≤ 64 ∧ b.mute.toNat ≤ 64 ∧ b.recover.toNat ≤ 64 ∧ b.degrade.toNat ≤ b.mute.toNat ∧
    b.recover.toNat < b.degrade.toNat

/-- The first field of SET_CHANNEL outside its range; the ordering of the thresholds names the last (log 18). -/
def setChannelField : Nat :=
  if 3 < b.channel.toNat then 0 else if 1 < b.enabled.toNat then 1 else if 1 < b.cdUsed.toNat then 2
  else if 1 < b.cdPolarity.toNat then 3 else if 15 < b.tag.toNat then 4 else if 64 < b.degrade.toNat then 5
  else if 64 < b.mute.toNat then 6 else 7

theorem boolCode_isSome (x : Byte) : (boolCode x).isSome = decide (x.toNat ≤ 1) := by
  unfold boolCode
  split
  · simp [*]
  · split
    · simp [*]
    · have : ¬x.toNat ≤ 1 := by bv_omega
      simp [this]

theorem polarityOf_isSome (x : Byte) : (polarityOf x).isSome = decide (x.toNat ≤ 1) := by
  rw [← boolCode_isSome]
  unfold polarityOf boolCode
  split
  · rfl
  · split <;> rfl

theorem setChannelTests_fits (h : setChannelFits b) : firstFailing (setChannelTests b) = none := by
  obtain ⟨h1, h2, h3, h4, h5, h6, h7, h8, h9, h10⟩ := h
  simp [setChannelTests, firstFailing, boolCode_isSome, polarityOf_isSome, *]

theorem setChannelTests_unfit (h : ¬setChannelFits b) : firstFailing (setChannelTests b) = some (setChannelField b) := by
  unfold setChannelFits at h
  unfold setChannelField setChannelTests
  simp only [firstFailing, boolCode_isSome, polarityOf_isSome, decide_eq_true_eq, Bool.and_eq_true]
  grind

theorem exec_setChannel {s : State} (hs : s.ready) (tag : Byte) :
    exec (.setChannel tag b) s = .next (answered 0x10 tag (actSetChannel b s.taking)) :=
  vanCommand_ready s hs tag (.setChannel b) nofun

variable (s : State) (ch : ChannelNo)

/-- What an accepted plan entry raises (R15, R18). -/
theorem State.planChannel_van (e : PlanEntry) :
    (s.planChannel ch e).van = if s.channels[ch].entry.enabled = e.enabled then s.van
      else (s.occur .channelState (channelStateDetail ch s.channels[ch].state (if e.enabled then .active else .off))).van := by
  unfold State.planChannel
  cases hc : s.channels[ch].entry.enabled <;> cases he : e.enabled <;> rfl

theorem State.planChannel_frame (e : PlanEntry) : s.frame [.van, .channels] (s.planChannel ch e) := by
  intro p hp
  unfold State.planChannel
  split <;> cases p <;> simp_all [State.agree]

/-- The four cases of an accepted plan entry with every field of the channel (R15 to R17). -/
theorem Channel.planned_eq (c : Channel) (ch : ChannelNo) (keyed : Bool) (e : PlanEntry) :
    let changes := { c.counters with stateChanges := c.counters.stateChanges + 1 }
    c.planned (decide (ch = 0) && keyed) e = match c.entry.enabled, e.enabled with
      | true, true => { c with pendingEntry := some e }
      | false, false => { c with entry := e, pendingEntry := none }
      | true, false =>
        { c with entry := e, pendingEntry := none, state := .off, decoder := .off, window := ⟨0, 0⟩, muteHold := none,
                 counters := changes }
      | false, true =>
        { c with entry := e, pendingEntry := none, state := .active, window := ⟨0, 0⟩, muteHold := none, counters := changes,
                 recent := [], decoder := if ch = 0 ∧ keyed = true then .blanked else .hunt } := by
  dsimp only
  unfold Channel.planned
  cases hc : c.entry.enabled <;> cases he : e.enabled
  · rfl
  · simp [Channel.moved]
  · simp [Channel.moved]
  · rfl

/-- Settles O22: the tests in order, then one plan entry accepted. -/
theorem setChannelWrites : Obligations.SetChannelWrites := by
  intro tag b s hs
  dsimp only
  refine ⟨fun ch hch hfits => ?_, fun hfits => ?_⟩
  · have hno : (Fin.ofNat 4 b.channel.toNat : ChannelNo) = ch := by
      rw [← hch]
      exact Fin.ofNat_val_eq_self ch
    have ha := actSetChannel_accepted s.taking (setChannelTests_fits b hfits)
    rw [hno] at ha
    have hx := exec_setChannel b hs tag
    rw [ha] at hx
    refine ⟨_, hx, ?_⟩
    have hu := (s.taking.planChannel ch (planEntryOf b)).guardWatch_van.trans (s.taking.planChannel_van ch (planEntryOf b))
    have hc : (answered 0x10 tag ((s.taking.planChannel ch (planEntryOf b)).guardWatch, .ok [])).channels =
        (s.taking.planChannel ch (planEntryOf b)).channels := by simp [answered]
    have hx : (answered 0x10 tag ((s.taking.planChannel ch (planEntryOf b)).guardWatch, .ok [])).tx =
        (s.taking.planChannel ch (planEntryOf b)).guardWatch.tx := by simp [answered]
    have ho := State.otherChannels_of_set (s := s) (hc.trans (s.taking.planChannel_channels ch (planEntryOf b)))
    have hf : s.frame [.van, .channels, .tx] (s.taking.planChannel ch (planEntryOf b)).guardWatch := by
      intro p hp
      have hp' := s.taking.planChannel_frame ch (planEntryOf b) p
      have hq := s.taking_frame p
      cases p <;> simp_all [State.agree]
    refine ⟨ho.2.trans ?_, ho.1, State.guardKept_of_guardWatch (s.taking.planChannel_tx ch (planEntryOf b)) hc hx, ?_⟩
    · exact Channel.planned_eq s.channels[ch] ch s.tx.state.isKeyed (planEntryOf b)
    · change s.completes _ 0x10 tag (.ok []) (if s.channels[ch].entry.enabled = (planEntryOf b).enabled then [] else
        [(.channelState, u8 ch.val ++ u8 s.channels[ch].state.code ++ u8 (if (planEntryOf b).enabled then 1 else 0))]) _
      have hcode : (if (planEntryOf b).enabled then 1 else 0) =
          (if (planEntryOf b).enabled then ChannelState.active else .off).code := by
        cases (planEntryOf b).enabled <;> rfl
      rw [hcode]
      split at hu
      · rename_i heq
        rw [if_pos (show s.channels[ch].entry.enabled = (planEntryOf b).enabled from heq)]
        exact State.completes_of_van hs hu hf
      · rename_i hne
        rw [if_neg (show ¬ s.channels[ch].entry.enabled = (planEntryOf b).enabled from hne)]
        exact State.completes_of_occur hs hu hf
  · have ha := actSetChannel_refused s.taking (setChannelTests_unfit b hfits)
    refine ⟨_, exec_setChannel b hs tag, ?_⟩
    rw [ha]
    have hfield : (if 3 < b.channel.toNat then 0 else if 1 < b.enabled.toNat then 1 else if 1 < b.cdUsed.toNat then 2
        else if 1 < b.cdPolarity.toNat then 3 else if 15 < b.tag.toNat then 4 else if 64 < b.degrade.toNat then 5
        else if 64 < b.mute.toNat then 6 else 7 : Byte) = BitVec.ofNat 8 (setChannelField b) := by
      unfold setChannelField
      simp only [apply_ite (BitVec.ofNat 8)]
      rfl
    rw [hfield]
    exact State.completes_of_van (r := (s.taking, badValue (setChannelField b))) hs rfl s.taking_frame

end SetChannel

end Sys2Proof.Machine


namespace Sys2Proof.Machine

section Outputs

/-! ## The outputs by monitor state (R197) -/

variable {s : State} {α : Type}

theorem State.output_running (h : s.running = true) (rest value : α) : s.output rest value = .drive value := by
  have hm : s.supply.monitor = .run := by simpa [State.running] using h
  simp [State.output, hm]

theorem State.txkey_running (h : s.running = true) : s.txkey = .drive s.tx.state.isKeyed := State.output_running h _ _

theorem State.running_congr {t : State} (h : t.supply = s.supply) : t.running = s.running := by
  simp [State.running, h]

end Outputs

section PollBurst

/-! ## The bytes of the poll burst (R200) -/

theorem u16_eq_bytes16 (w : Word16) : u16 w.toNat = bytes16 w := by
  simp [u16, bytes16, BitVec.extractLsb', Nat.shiftRight_eq_div_pow]

theorem u32_eq_bytes32 (w : Word32) : u32 w.toNat = bytes32 w := by
  simp [u32, u16, bytes32, BitVec.extractLsb', Nat.shiftRight_eq_div_pow, Nat.div_div_eq_div_mul]

/-- Both preambles of a burst, one after the other: 144 alternating symbols. -/
theorem preamble_burst : preamble 128 ++ preamble 16 = (List.replicate 72 [(0x5 : Nibble), 0xA]).flatten := by decide

theorem pollBody_eq (meterId : Word32) (token : Byte) :
    pollBody meterId token = 4 :: bytes32 meterId ++ [0, 0, 0, 0, 0, 0, token, 0, 0] := by
  rw [pollBody, u32_eq_bytes32]

theorem pollBurst_eq (meterId : Word32) (token : Byte) :
    pollBurst meterId token = (List.replicate 72 [(0x5 : Nibble), 0xA]).flatten ++
      [0xC, 0x3, 0x9, 0x6, 0x0, 0xE, 0xF, 0x1] ++ symbols (pollBody meterId token) ++
      symbols (bytes16 (crc16 0x0000 (pollBody meterId token))) ++ (Config.checkSymbols (pollBody meterId token)).toList := by
  have hh : symbols [14, ~~~14] = [0x0, 0xE, 0xF, 0x1] := by decide
  simp only [pollBurst, preamble_burst, hh, u16_eq_bytes16, airCrc, List.append_assoc, List.cons_append, List.nil_append]

end PollBurst

section PollRows

/-! ## POLL_TAKE, GUARD_COMPLETE and BURST_END (R132 to R135) -/

variable {s : State} {q : PollEntry} {timer : Timer}

theorem pollTake_spec {rest : List PollEntry} (hrun : s.running = true) (hs : s.tx.state = .idle) (hi : s.tx.inhibit = false)
    (hq : s.tx.queue = q :: rest) :
    ∃ t, exec .pollTake s = .next t ∧
      t.tx = ({ s with tx := { s.tx with state := .clearing q 0 ⟨0, 250⟩, queue := rest } } : State).refillScan.tx ∧
      t.tx.state = .clearing q 0 ⟨0, 250⟩ ∧ s.changesOnly t [] [.tx] := by
  change ∃ t, execPollTake s = .next t ∧ _
  rw [execPollTake, whenRunning_next, if_pos hrun, hs, hi, hq]
  dsimp only
  generalize hu : (s.modTx fun t => { t with state := .clearing q 0 (.start Config.clearWaitMs), queue := rest }) = u
  have hx : u.refillScan.announceDue.tx = u.refillScan.tx := State.tx_announceDue _
  refine ⟨_, rfl, hx.trans (by rw [← hu]; rfl), ?_, State.changesOnly_of_van ?_ fun b hb => ?_⟩
  · rw [hx, State.refillScan_txState, ← hu]
    rfl
  · rw [u.refillScan_frame.2.2.2.2.2.2.2.2.2.2.1, ← hu]
    rfl
  · subst hu
    cases b <;> simp_all [State.agree, State.modTx]

/-- A channel is clear when no frame is in progress on it and no carrier is seen (R133). -/
theorem Channel.clear_of {c : Channel} (hp : c.decoder.inProgress = false) (hc : c.entry.cdUsed = true → c.cdPin ≠ c.entry.cdHigh) :
    c.clear = true := by
  unfold Channel.clear Channel.carrier
  cases hu : c.entry.cdUsed <;> simp_all

theorem Decoder.blank_eq (d : Decoder) : d.blank = if d = .off then .off else .blanked := by cases d <;> simp [Decoder.blank]

theorem Decoder.unblank_eq (d : Decoder) : d.unblank = if d = .blanked then .hunt else d := by cases d <;> simp [Decoder.unblank]

theorem State.key_eq (p : PollEntry) :
    s.key p = s.withRadio
      (s.channels.set 0 { s.channels[(0 : ChannelNo)] with decoder := s.channels[(0 : ChannelNo)].decoder.blank })
      { s.tx with
        state := .keyed p (s.tx.lastToken + 1) false ⟨0, 48⟩, lastToken := s.tx.lastToken + 1
        counters := { s.tx.counters with sent := s.tx.counters.sent + 1 } } := rfl

/-- CH0 and the transmitter exchanged: what the statements about keying and unkeying read of the outcome. -/
theorem State.keying_after (hrun : s.running = true) (d : Channel) (x : Transmitter) :
    let t := (s.withRadio (s.channels.set 0 d) x).announceDue
    t.tx = x ∧ t.channels[(0 : ChannelNo)] = d ∧ s.otherChannels 0 t ∧ t.running = true ∧ s.changesOnly t [] [.tx, .channels] := by
  dsimp only
  obtain ⟨hc, hx⟩ := s.withRadio_after (s.channels.set 0 d) x
  have ho := State.otherChannels_of_set (ch := (0 : ChannelNo)) hc
  refine ⟨hx, ho.2, ho.1, ?_, State.changesOnly_of_van rfl fun b hb => ?_⟩
  · rw [← hrun]
    exact State.running_congr (by simp [State.withRadio])
  · cases b <;> simp_all [State.agree, State.withRadio]

theorem execGuardComplete_clear {guard : Nat} (hrun : s.running = true) (hs : s.tx.state = .clearing q guard timer)
    (hg : 5 ≤ guard) (hc : s.channels[(0 : ChannelNo)].clear = true) :
    exec .guardComplete s = .next (s.key q).announceDue := by
  change execGuardComplete s = _
  rw [execGuardComplete, whenRunning_next, if_pos hrun, hs]
  dsimp only
  rw [if_pos ⟨hg, hc⟩]

theorem execBurstEnd_due {token : Byte} {cancelled : Bool} (hrun : s.running = true)
    (hs : s.tx.state = .keyed q token cancelled timer) (hd : timer.limit ≤ timer.elapsed) :
    exec .burstEnd s = .next (s.withRadio (s.channels.set 0 s.channels[(0 : ChannelNo)].unblank)
      { s.tx with state := .listen q token cancelled ⟨0, s.route.params.listenWindow⟩ }).announceDue := by
  change execBurstEnd s = _
  rw [execBurstEnd, whenRunning_next, if_pos hrun, hs]
  dsimp only
  rw [if_pos (by simpa [Timer.due] using hd)]
  rfl

/-- Settles O41: the rows that take, key and listen for a poll, and the outputs in the states they lead to. -/
theorem pollGoesOnTheAir : Obligations.PollGoesOnTheAir := by
  intro q rest guard timer token cancelled s hrun
  dsimp only
  refine ⟨pollTake_spec hrun, fun hs hg hp hcd => ?_, fun hs hd => ?_⟩
  · refine ⟨_, execGuardComplete_clear hrun hs hg (Channel.clear_of hp hcd), ?_⟩
    rw [State.key_eq]
    generalize hx : ({ s.tx with
        state := .keyed q (s.tx.lastToken + 1) false ⟨0, 48⟩, lastToken := s.tx.lastToken + 1
        counters := { s.tx.counters with sent := s.tx.counters.sent + 1 } } : Transmitter) = x
    have hst : x.state = .keyed q (s.tx.lastToken + 1) false ⟨0, 48⟩ := by rw [← hx]
    obtain ⟨htx, hch, hother, hrun', honly⟩ :=
      State.keying_after hrun { s.channels[(0 : ChannelNo)] with decoder := s.channels[(0 : ChannelNo)].decoder.blank } x
    refine ⟨htx, ?_, hother, ?_, ?_, honly⟩
    · rw [hch, Decoder.blank_eq]
    · rw [State.txkey_running hrun', htx, hst]
      rfl
    · rw [State.txd, State.output_running hrun', htx, hst]
      dsimp only
      rw [pollBurst_eq, pollBody_eq]
      rfl
  · refine ⟨_, execBurstEnd_due hrun hs hd, ?_⟩
    obtain ⟨htx, hch, hother, hrun', honly⟩ :=
      State.keying_after hrun s.channels[(0 : ChannelNo)].unblank
        { s.tx with state := .listen q token cancelled ⟨0, s.route.params.listenWindow⟩ }
    refine ⟨htx, ?_, hother, ?_, ?_, honly⟩
    · rw [hch, Channel.unblank, Decoder.unblank_eq]
    · rw [State.txkey_running hrun', htx]
      rfl
    · rw [State.txd, State.output_running hrun', htx]

end PollRows

end Sys2Proof.Machine


namespace Sys2Proof.Machine

section Targets

/-! ## The targets of READ_STATUS, READ_COUNTERS and CLEAR_COUNTERS (R177) -/

theorem targetOf_channel {target : Byte} {n : ChannelNo} (h : target.toNat = n.val + 1) :
    targetOf target = some (.channel n) := by
  unfold targetOf
  rw [h]
  fin_cases n <;> rfl

/-- The targets from 11 on have no status. -/
theorem targetOf_noStatus {target : Byte} (h : 11 ≤ target.toNat) :
    targetOf target = some .capture ∨ targetOf target = some .van ∨ targetOf target = none := by
  unfold targetOf
  split <;> simp_all

/-- The targets that have no counters. -/
theorem targetOf_noCounters {target : Byte}
    (h : target = 0 ∨ target = 5 ∨ target = 9 ∨ target = 10 ∨ 13 ≤ target.toNat) :
    targetOf target = some .route ∨ targetOf target = some .settings ∨ targetOf target = some .clock ∨
      targetOf target = some .notices ∨ targetOf target = none := by
  obtain rfl | rfl | rfl | rfl | h := h
  · exact .inl rfl
  · exact .inr (.inl rfl)
  · exact .inr (.inr (.inl rfl))
  · exact .inr (.inr (.inr (.inl rfl)))
  · unfold targetOf
    split <;> simp_all

variable {s : State} {tag target : Byte} {a : Answer}

theorem readStatus_completes (hs : s.ready) (h : actReadStatus target s.taking = (s.taking, a)) :
    ∃ t, exec (.readStatus tag target) s = .next t ∧ s.completes t 0x45 tag a [] [] := by
  refine ⟨answered 0x45 tag (s.taking, a), ?_, State.completes_of_van hs rfl s.taking_frame⟩
  rw [← h]
  exact vanCommand_ready s hs tag (.readStatus target) nofun

theorem readCounters_completes (hs : s.ready) (h : actReadCounters target s.taking = (s.taking, a)) :
    ∃ t, exec (.readCounters tag target) s = .next t ∧ s.completes t 0x46 tag a [] [] := by
  refine ⟨answered 0x46 tag (s.taking, a), ?_, State.completes_of_van hs rfl s.taking_frame⟩
  rw [← h]
  exact vanCommand_ready s hs tag (.readCounters target) nofun

theorem exec_clearCounters (hs : s.ready) :
    exec (.clearCounters tag target) s = .next (answered 0x50 tag (actClearCounters target s.taking)) :=
  vanCommand_ready s hs tag (.clearCounters target) nofun

theorem actReadStatus_unfit (h : 11 ≤ target.toNat) : actReadStatus target s = (s, badValue 0) := by
  unfold actReadStatus
  obtain h | h | h := targetOf_noStatus h <;> rw [h] <;> rfl

theorem actReadCounters_unfit (h : target = 0 ∨ target = 5 ∨ target = 9 ∨ target = 10 ∨ 13 ≤ target.toNat) :
    actReadCounters target s = (s, badValue 0) := by
  unfold actReadCounters
  obtain h | h | h | h | h := targetOf_noCounters h <;> rw [h] <;> rfl

theorem actClearCounters_unfit (h : target = 0 ∨ target = 5 ∨ target = 9 ∨ target = 10 ∨ 13 ≤ target.toNat) :
    actClearCounters target s = (s, badValue 0) := by
  unfold actClearCounters
  obtain h | h | h | h | h := targetOf_noCounters h <;> rw [h] <;> rfl

end Targets

section StatusBytes

/-! ## The items of the replies -/

theorem flagByte_eq (b : Bool) : flagByte b = [if b = true then 1 else 0] := by cases b <;> rfl

theorem polarity_eq (high : Bool) : u8 (polarityCode high) = flagByte !high := by cases high <;> rfl

theorem LinkState.inSession_iff (l : LinkState) : l.inSession = true ↔ l = .ready ∨ l = .uploading := by
  cases l <;> simp [LinkState.inSession]

/-- Every record is PENDING, IN_FLIGHT or UPLOADED (R113). -/
theorem Store.fill_eq (k : Store) :
    k.fill = k.records.countP (·.upload == .pending) + k.records.countP (·.upload == .inFlight) := by
  unfold Store.fill
  induction k.records with
  | nil => rfl
  | cons r rest ih =>
    simp only [List.countP_cons, ih]
    cases r.upload <;> simp <;> omega

theorem Store.inFlightRecords_length (k : Store) : k.inFlightRecords.length = k.records.countP (·.upload == .inFlight) := by
  rw [Store.inFlightRecords, ← List.countP_eq_length_filter]
  simp only [beq_eq_decide]

theorem Store.pendingRecords_length (k : Store) : k.pendingRecords.length = k.records.countP (·.upload == .pending) := by
  rw [Store.pendingRecords, ← List.countP_eq_length_filter]
  simp only [beq_eq_decide]

theorem Store.pendingRecords_head (k : Store) : k.pendingRecords.head? = k.records.find? (·.upload == .pending) := by
  rw [Store.pendingRecords, List.head?_filter]
  simp only [beq_eq_decide]

end StatusBytes

end Sys2Proof.Machine


namespace Sys2Proof.Machine

section VanCounters

variable {s : State} {tag target : Byte}

/-- A command taken at once whose act cleared the counts of the van link, the one of the command itself among them (R186). -/
theorem answered_cleared {kind : Byte} {u : State} (hs : s.ready) (hv : u.van = { s.van with counters := .zero })
    (hf : s.frame [.van] u) :
    s.replies (answered kind tag (u, .ok [])) kind tag (.ok []) ∧ s.raised (answered kind tag (u, .ok [])) [] ∧
      (answered kind tag (u, .ok [])).van.counters = VanCounters.zero ∧
      (answered kind tag (u, .ok [])).van.attnMode = s.van.attnMode ∧ s.frame [.van] (answered kind tag (u, .ok [])) := by
  obtain ⟨-, hh, -, hp⟩ := hs
  have hm : (u.queueMessage (replyMessage kind tag (.ok []))).van =
      { u.van with outbound := u.van.outbound ++ [replyMessage kind tag (.ok [])] } := rfl
  have hq : s.raised (u.queueMessage (replyMessage kind tag (.ok []))) [] := State.raised_nil (by rw [hm, hv])
  obtain ⟨-, -, -, -, hmode, hcount⟩ := (u.queueMessage (replyMessage kind tag (.ok []))).announceDue_van
  have hr := State.raised_announceDue hq
  have hreply := replies_answered s kind tag (u, .ok []) (by rw [hv]) (by rw [hv, hh]) (by rw [hv]) (by rw [hv, hp])
    (by rw [hv]) (by rw [hv]; exact Van.pulsed_zero_of rfl rfl)
  have hg : s.frame [.van] (answered kind tag (u, .ok [])) := by
    intro b hb
    have hb' := hf b hb
    cases b <;> simp_all [State.agree, answered_frame]
  unfold answered at *
  generalize (u.queueMessage (replyMessage kind tag (.ok []))).announceDue = t at *
  refine ⟨hreply, hr, hcount.trans ?_, hmode.trans ?_, hg⟩
  · rw [hm, hv]
  · rw [hm, hv]

theorem clearCounters_van (hs : s.ready) (h : targetOf target = some .van) :
    ∃ t, exec (.clearCounters tag target) s = .next t ∧ s.replies t 0x50 tag (.ok []) ∧ s.raised t [] ∧
      t.van.counters = VanCounters.zero ∧ t.van.attnMode = s.van.attnMode ∧ s.frame [.van] t := by
  have ha : actClearCounters target s.taking = (s.taking.modVan fun v => { v with counters := .zero }, .ok []) := by
    rw [actClearCounters, h]
  have hx := exec_clearCounters (tag := tag) (target := target) hs
  rw [ha] at hx
  refine ⟨_, hx, answered_cleared hs rfl fun b hb => ?_⟩
  cases b <;> simp_all [State.agree, State.taking, State.countVan, State.modVan]

end VanCounters

section ReadItems

variable {s : State} {tag target : Byte} {bytes : List Byte}

/-- READ_STATUS where the bytes of the status are known to be those of the statement. -/
theorem readStatus_items {model : List Byte} (hs : s.ready) (h : actReadStatus target s.taking = (s.taking, .ok model))
    (hb : model = bytes) : ∃ t, exec (.readStatus tag target) s = .next t ∧ s.completes t 0x45 tag (.ok bytes) [] [] :=
  readStatus_completes hs (hb ▸ h)

theorem readCounters_items {model : List Byte} (hs : s.ready) (h : actReadCounters target s.taking = (s.taking, .ok model))
    (hb : model = bytes) : ∃ t, exec (.readCounters tag target) s = .next t ∧ s.completes t 0x46 tag (.ok bytes) [] [] :=
  readCounters_completes hs (hb ▸ h)

variable {P : State → Prop} {part : Part} {u : State}

/-- CLEAR_COUNTERS where one part of the state changes. -/
theorem clearCounters_part (hs : s.ready) (ha : actClearCounters target s.taking = (u, .ok [])) (hv : u.van = s.taking.van)
    (hf : s.frame [.van, part] u) (hP : P (answered 0x50 tag (u, .ok []))) :
    ∃ t, exec (.clearCounters tag target) s = .next t ∧ P t ∧ s.completes t 0x50 tag (.ok []) [] [part] := by
  refine ⟨answered 0x50 tag (u, .ok []), ?_, hP, State.completes_of_van hs hv hf⟩
  rw [exec_clearCounters hs, ha]

theorem clearCounters_channel {n : ChannelNo} (hs : s.ready) (ht : target.toNat = n.val + 1) :
    ∃ t, exec (.clearCounters tag target) s = .next t ∧
      (s.otherChannels n t ∧ t.channels[n] = { s.channels[n] with counters :=
        ⟨0, 0, 0, 0, 0, 0, 0, s.channels[n].state == .degraded, s.channels[n].state == .muted⟩ }) ∧
      s.completes t 0x50 tag (.ok []) [] [.channels] := by
  have ha : actClearCounters target s.taking =
      (s.taking.modChannel n fun c => { c with counters := .cleared c.state }, .ok []) := by
    rw [actClearCounters, targetOf_channel ht]
  have hc := (answered_frame 0x50 tag (s.taking.modChannel n fun c => { c with counters := .cleared c.state }, .ok [])).2.2.1
  refine clearCounters_part hs ha rfl (fun b hb => ?_) (State.otherChannels_of_set hc)
  cases b <;> simp_all [State.agree, State.taking, State.countVan, State.modVan]

theorem clearCounters_store (hs : s.ready) :
    ∃ t, exec (.clearCounters tag 6) s = .next t ∧ t.store = { s.store with appends := 0, reclaims := 0, drops := 0 } ∧
      s.completes t 0x50 tag (.ok []) [] [.store] := by
  refine clearCounters_part (P := fun t => t.store = { s.store with appends := 0, reclaims := 0, drops := 0 })
    (u := s.taking.modStore fun k => { k with appends := 0, reclaims := 0, drops := 0 }) hs rfl rfl (fun b hb => ?_)
    (answered_frame _ _ _).2.2.2.2.2.2.2.1
  cases b <;> simp_all [State.agree, State.taking, State.countVan, State.modVan]

theorem clearCounters_tx (hs : s.ready) :
    ∃ t, exec (.clearCounters tag 7) s = .next t ∧
      t.tx = { s.tx with counters := ⟨if s.tx.state.onAir then 1 else 0, 0, 0, 0, 0⟩ } ∧
      s.completes t 0x50 tag (.ok []) [] [.tx] := by
  refine clearCounters_part (P := fun t => t.tx = { s.tx with counters := ⟨if s.tx.state.onAir then 1 else 0, 0, 0, 0, 0⟩ })
    (u := s.taking.modTx fun t => { t with counters := .cleared t.state }) hs rfl rfl (fun b hb => ?_)
    (answered_frame _ _ _).2.2.2.2.2.2.2.2.1
  cases b <;> simp_all [State.agree, State.taking, State.countVan, State.modVan]

theorem clearCounters_dock (hs : s.ready) :
    ∃ t, exec (.clearCounters tag 8) s = .next t ∧
      t.dock = { s.dock with counters := ⟨0, false, 0, 0, 0, 0, 0, 0, 0, 0⟩ } ∧
      s.completes t 0x50 tag (.ok []) [] [.dock] := by
  refine clearCounters_part (P := fun t => t.dock = { s.dock with counters := ⟨0, false, 0, 0, 0, 0, 0, 0, 0, 0⟩ })
    (u := s.taking.modDock fun d => { d with counters := .zero }) hs rfl rfl (fun b hb => ?_)
    (answered_frame _ _ _).2.2.2.2.2.2.2.2.2.1
  cases b <;> simp_all [State.agree, State.taking, State.countVan, State.modVan]

theorem clearCounters_capture (hs : s.ready) :
    ∃ t, exec (.clearCounters tag 11) s = .next t ∧
      t.capture = { s.capture with counters := ⟨0, 0, 0, 0, 0, 0, 0, 0⟩ } ∧ s.completes t 0x50 tag (.ok []) [] [.capture] := by
  refine clearCounters_part (P := fun t => t.capture = { s.capture with counters := ⟨0, 0, 0, 0, 0, 0, 0, 0⟩ })
    (u := s.taking.modCapture fun c => { c with counters := .zero }) hs rfl rfl (fun b hb => ?_)
    (answered_frame _ _ _).2.2.2.1
  cases b <;> simp_all [State.agree, State.taking, State.countVan, State.modVan]

theorem clearCounters_unfit (hs : s.ready) (h : target = 0 ∨ target = 5 ∨ target = 9 ∨ target = 10 ∨ 13 ≤ target.toNat) :
    ∃ t, exec (.clearCounters tag target) s = .next t ∧ s.completes t 0x50 tag (badValue 0) [] [] := by
  refine ⟨answered 0x50 tag (s.taking, badValue 0), ?_, State.completes_of_van hs rfl s.taking_frame⟩
  rw [exec_clearCounters hs, actClearCounters_unfit h]

end ReadItems

section Settled

/-- Settles O58: every target by its row of R177, item by item. -/
theorem statusAndCounters : Obligations.StatusAndCounters := by
  intro tag target n s hs completes status counters cleared bad flag opt count entry ch q c r st inState poll a d session b k
  have hflag : ∀ b, flagByte b = [flag b] := flagByte_eq
  have hopt : ∀ w x, optional w x = opt w x := fun w x => by cases x <;> rfl
  have hentry : ∀ e : PlanEntry, e.bytes = entry e := fun e => by
    simp only [PlanEntry.bytes, hflag, polarity_eq, List.append_assoc, List.cons_append, List.nil_append, entry]
  have hdisposition : ∀ x : Disposition, x.bytes = u8 x.recClass.code ++ u8 x.report.code ++ [flag x.recheck] := fun x => by
    rw [Disposition.bytes, hflag]
  have hshown : ∀ {α : Type} (x : Option α), (if d.link.inSession then x else none) = if session then x else none :=
    fun x => if_congr d.link.inSession_iff rfl rfl
  have hpoll : poll = s.tx.state.poll.map fun p => (p, s.tx.state.tokenAndMark) := by
    simp only [poll]
    cases s.tx.state <;> rfl
  refine ⟨fun ht => ⟨?_, ?_, ?_⟩, fun ht => ?_, fun ht => ?_, fun ht => ⟨?_, ?_, ?_⟩, fun ht => ⟨?_, ?_, ?_⟩,
    fun ht => ⟨?_, ?_, ?_⟩, fun ht => ?_, fun ht => ?_, fun ht => ⟨?_, ?_⟩, fun ht => ⟨?_, ?_⟩,
    fun ht => readStatus_completes hs (actReadStatus_unfit ht),
    fun ht => ⟨readCounters_completes hs (actReadCounters_unfit ht), ?_⟩,
    fun _ _ _ _ _ _ _ => ⟨rfl, rfl⟩, rfl, rfl, rfl, rfl, rfl, rfl, rfl, rfl, rfl, rfl, rfl, rfl, rfl, rfl, rfl, rfl, rfl, rfl, rfl⟩
  -- CHANNEL
  · refine readStatus_items (model := ch.status) hs (by rw [actReadStatus, targetOf_channel ht]; rfl) ?_
    simp only [Channel.status, hopt, funext hentry]
  · refine readCounters_items (model := q.bytes) hs (by rw [actReadCounters, targetOf_channel ht]; rfl) ?_
    simp only [ChannelCounters.bytes, hflag, List.append_assoc, List.cons_append, List.nil_append]
    rfl
  · exact clearCounters_channel hs ht
  -- ROUTE
  · subst ht
    refine readStatus_items (model := s.routeStatus) hs rfl ?_
    simp only [State.routeStatus, listOf, hflag, List.length_map, List.append_assoc, ← List.flatMap_def]
    rfl
  -- SETTINGS
  · subst ht
    refine readStatus_items (model := r.settingsStatus) hs rfl ?_
    simp only [Route.settingsStatus, Params.bytes, hflag, funext hdisposition, List.append_assoc]
    rfl
  -- STORE
  · subst ht
    refine readStatus_items (model := s.storeStatus) hs rfl ?_
    simp only [State.storeStatus, hopt, Store.fill_eq, Store.inFlightRecords_length, Store.pendingRecords_length,
      Store.pendingRecords_head]
    rfl
  · subst ht
    exact readCounters_completes hs rfl
  · subst ht
    exact clearCounters_store hs
  -- TRANSMITTER
  · subst ht
    refine readStatus_items (model := s.tx.status) hs rfl ?_
    simp only [Transmitter.status, hopt, hflag, List.append_assoc, List.cons_append, List.nil_append]
    simp only [hpoll, Option.map_map]
    rfl
  · subst ht
    exact readCounters_completes hs rfl
  · subst ht
    exact clearCounters_tx hs
  -- DOCK
  · subst ht
    refine readStatus_items (model := d.status) hs rfl ?_
    simp only [Dock.status, hopt, hflag, polarity_eq, List.append_assoc, List.cons_append, List.nil_append]
    simp only [hshown, apply_ite (Option.map _), Option.map_none, funext hflag]
    rfl
  · subst ht
    refine readCounters_items (model := b.bytes) hs rfl ?_
    simp only [DockCounters.bytes, hflag, List.append_assoc, List.cons_append, List.nil_append]
    rfl
  · subst ht
    exact clearCounters_dock hs
  -- CLOCK
  · subst ht
    refine readStatus_items (model := s.clock.status) hs rfl ?_
    simp only [Clock.status, hopt, hflag]
  -- NOTICES
  · subst ht
    refine readStatus_items (model := s.noticeStatus) hs rfl ?_
    simp only [State.noticeStatus, Notice.status, hopt, hflag, List.append_assoc, List.cons_append, List.nil_append]
  -- CAPTURE
  · subst ht
    exact readCounters_completes hs rfl
  · subst ht
    exact clearCounters_capture hs
  -- VAN
  · subst ht
    exact readCounters_completes hs rfl
  · subst ht
    exact clearCounters_van hs rfl
  · exact clearCounters_unfit hs ht

end Settled

end Sys2Proof.Machine


namespace Sys2Proof.Machine

section Retention

/-! ## What a stop of activity loses, and what the retained memory depends on (R189, R190) -/

theorem Supply.lost_iff (q : Supply) : (q.onVbak && q.vbakLow) = true ↔
    (q.monitor = .dip ∨ q.monitor = .off) ∧ q.vddGood = false ∧ q.vbakLow = true := by
  simp [Supply.onVbak, and_assoc]

theorem Supply.retain_eq (q : Supply) :
    q.retain = if (q.monitor = .dip ∨ q.monitor = .off) ∧ q.vddGood = false ∧ q.vbakLow = true
      then { q with markerValid := false } else q := by
  rw [← if_congr q.lost_iff rfl rfl, Supply.retain]
  cases q.onVbak && q.vbakLow <;> simp

theorem State.stopActivity_resets (s : State) (m : MonitorState) (k : ResetKind) : s.resets (s.stopActivity m k) := by
  have hn : ∀ c : Cause, (s.stopActivity m k).notice c = .clear (s.notice c).masked := fun c => by
    simp [State.notice, State.stopActivity, State.loseVolatile, State.modSupply, Van.initial]
  refine ⟨fun n => ?_, rfl, rfl, rfl, rfl, rfl, rfl, rfl, rfl, rfl, rfl, rfl, rfl, rfl, rfl, rfl, rfl, hn, rfl, rfl⟩
  exact ofFn_channel _ n

end Retention

section MonitorRows

/-! ## The rows of the supply monitor, by monitor state (R189, R193) -/

variable {s : State}

theorem supplyDip_works (h : s.supply.monitor = .run ∨ s.supply.monitor = .start) :
    ∃ t, exec .supplyDip s = .next t ∧ s.resets t ∧
      t.supply = ({ s.supply with
        monitor := .dip, lastReset := .dip, vddGood := false, powerLost := false, goodCount := none, starting := none } : Supply).retain := by
  refine ⟨((s.modSupply fun p => { p with vddGood := false, goodCount := none }).stopActivity .dip .dip).supplied id, ?_,
    State.stopActivity_resets (s.modSupply fun p => { p with vddGood := false, goodCount := none }) .dip .dip, rfl⟩
  change execSupplyDip s = _
  obtain h | h := h <;> simp only [execSupplyDip, State.modSupply_supply, h]

theorem supplyDip_held (h : s.supply.monitor = .held) :
    exec .supplyDip s =
      .next { s with supply := ({ s.supply with monitor := .dip, vddGood := false, goodCount := none } : Supply).retain } := by
  change execSupplyDip s = _
  simp only [execSupplyDip, State.modSupply_supply, h]
  rfl

theorem supplyDip_low (h : s.supply.monitor = .dip ∨ s.supply.monitor = .off) :
    exec .supplyDip s = .next { s with supply := ({ s.supply with vddGood := false, goodCount := none } : Supply).retain } := by
  change execSupplyDip s = _
  obtain h | h := h <;> simp [execSupplyDip, State.supplied, State.modSupply, h]

theorem resetNAssert_works (h : s.supply.monitor = .run ∨ s.supply.monitor = .start) :
    ∃ t, exec .resetNAssert s = .next t ∧ s.resets t ∧
      t.supply = { s.supply with
        monitor := .held, lastReset := .pin, resetAsserted := true, powerLost := false, goodCount := none, starting := none } := by
  refine ⟨(s.modSupply fun p => { p with resetAsserted := true }).stopActivity .held .pin, ?_,
    State.stopActivity_resets (s.modSupply fun p => { p with resetAsserted := true }) .held .pin, rfl⟩
  change execResetNAssert s = _
  obtain h | h := h <;> simp only [execResetNAssert, State.modSupply_supply, h]

theorem resetNAssert_stopped (h : s.supply.monitor = .held ∨ s.supply.monitor = .dip ∨ s.supply.monitor = .off) :
    exec .resetNAssert s = .next { s with supply := { s.supply with resetAsserted := true } } := by
  change execResetNAssert s = _
  obtain h | h | h := h <;> simp [execResetNAssert, State.modSupply, h]

theorem resetNRelease_held (h : s.supply.monitor = .held) :
    exec .resetNRelease s = .next { s with supply := { s.supply with monitor := .start, resetAsserted := false } } := by
  change execResetNRelease s = _
  simp only [execResetNRelease, State.modSupply_supply, h]
  rfl

theorem resetNRelease_other (h : s.supply.monitor ≠ .held) :
    exec .resetNRelease s = .next { s with supply := { s.supply with resetAsserted := false } } := by
  change execResetNRelease s = _
  cases hm : s.supply.monitor <;> simp_all [execResetNRelease, State.modSupply]

theorem crossing_low (rising : Bool) (h : s.supply.monitor = .dip ∨ s.supply.monitor = .off) :
    exec (.vddGoodLevelCrossing rising) s = .next { s with supply :=
      ({ s.supply with vddGood := rising, goodCount := if rising then some ⟨0, 20⟩ else none } : Supply).retain } := by
  change execVddGoodLevelCrossing rising s = _
  obtain h | h := h <;> simp [execVddGoodLevelCrossing, State.supplied, State.modSupply, Timer.start, h]

theorem crossing_powered (rising : Bool) (h : ¬(s.supply.monitor = .dip ∨ s.supply.monitor = .off)) :
    exec (.vddGoodLevelCrossing rising) s = .next { s with supply := { s.supply with vddGood := rising } } := by
  change execVddGoodLevelCrossing rising s = _
  cases hm : s.supply.monitor <;> simp_all [execVddGoodLevelCrossing, State.modSupply]

theorem vddGood_due {timer : Timer} (h : s.supply.monitor = .dip ∨ s.supply.monitor = .off)
    (hc : s.supply.goodCount = some timer) (hd : timer.limit ≤ timer.elapsed) :
    exec .vddGood s = .next { s with supply := s.supply.endInterruption } := by
  change execVddGood s = _
  have hdue : s.supply.goodCount.any (·.due) = true := by simpa [hc, Timer.due] using hd
  obtain h | h := h <;> simp [execVddGood, State.modSupply, Supply.endInterruption, h, hdue]

theorem vddGood_powered (h : ¬(s.supply.monitor = .dip ∨ s.supply.monitor = .off)) : exec .vddGood s = .next s := by
  change execVddGood s = _
  cases hm : s.supply.monitor <;> simp_all [execVddGood]

theorem powerLost_dip (h : s.supply.monitor = .dip) :
    exec .powerLost s = .next { s with supply :=
      ({ s.supply with monitor := .off, powerLost := true, vddGood := false, goodCount := none } : Supply).retain } := by
  change execPowerLost s = _
  simp only [execPowerLost, h]
  rfl

theorem powerLost_other (h : s.supply.monitor ≠ .dip) : exec .powerLost s = .next s := by
  change execPowerLost s = _
  cases hm : s.supply.monitor <;> simp_all [execPowerLost]

end MonitorRows

section MonitorOutputs

variable {s : State} {α : Type}

theorem State.output_low (h : s.supply.monitor = .dip ∨ s.supply.monitor = .off) (rest value : α) :
    s.output rest value = .undriven := by
  obtain h | h := h <;> simp [State.output, h]

theorem State.output_resting (h : s.supply.monitor = .held ∨ s.supply.monitor = .start) (rest value : α) :
    s.output rest value = .drive rest := by
  obtain h | h := h <;> simp [State.output, h]

/-- Settles O59: each row in each monitor state, and the outputs by monitor state. -/
theorem supplyMonitorMoves : Obligations.SupplyMonitorMoves := by
  intro rising flat timer s p works low kept only stops
  have hkept : ∀ q : Supply, q.retain = kept q := Supply.retain_eq
  refine ⟨fun hw => ⟨?_, ?_, ?_⟩, fun hh => ⟨?_, ?_, ?_⟩, fun hl => ⟨?_, ?_, ?_, ?_, fun hc hd => ?_⟩, fun hd => ?_,
    fun hd => ?_, ?_, fun hn => ⟨?_, ?_⟩, fun hl => ?_, fun hr => ?_, fun hr => ⟨?_, fun hs => ?_⟩⟩
  -- RUN and START
  · obtain ⟨t, hx, hr, ht⟩ := supplyDip_works hw
    exact ⟨t, hx, hr, ht.trans (hkept _)⟩
  · obtain ⟨t, hx, hr, ht⟩ := resetNAssert_works hw
    exact ⟨t, hx, hr, ht.trans (if_neg nofun).symm⟩
  · exact resetNRelease_other fun h => by simp_all [works, p]
  -- HELD
  · exact (supplyDip_held hh).trans (by rw [hkept])
  · exact resetNAssert_stopped (.inl hh)
  · exact resetNRelease_held hh
  -- DIP and OFF
  · exact (supplyDip_low hl).trans (by rw [hkept])
  · exact resetNAssert_stopped (.inr hl)
  · exact resetNRelease_other fun h => by simp_all [low, p]
  · exact (crossing_low rising hl).trans (by rw [hkept])
  · exact vddGood_due hl hc hd
  · exact (powerLost_dip hd).trans (by rw [hkept])
  · exact powerLost_other hd
  · change Host.Outcome.next { s with supply := ({ s.supply with vbakLow := flat } : Supply).retain } = _
    rw [hkept]
  · exact vddGood_powered hn
  · exact crossing_powered rising hn
  -- the outputs
  · exact ⟨State.output_low hl _ _, State.output_low hl _ _, State.output_low hl _ _, State.output_low hl _ _,
      State.output_low hl _ _, State.output_low hl _ _, State.output_low hl _ _⟩
  · exact ⟨State.output_resting hr _ _, State.output_resting hr _ _, State.output_resting hr _ _, State.output_resting hr _ _,
      State.output_resting hr _ _, State.output_resting hr _ _, State.output_resting hr _ _⟩
  · exact State.output_running (by simpa [State.running] using hr) _ _
  · rw [State.dtx, State.output_running (by simpa [State.running] using hr), hs]

end MonitorOutputs

end Sys2Proof.Machine


namespace Sys2Proof.Machine

section Expiries

/-! ## The rows of the expiries (log 4) -/

/-- The rows that stand for the end of a duration which the part itself measures. -/
def isExpiry : Instr → Bool
  | .muteHoldExpiry _ | .holdTimerExpiry _ | .gatherLimitExpiry _ | .dwellTimerExpiry _ | .guardComplete | .clearWaitExpiry
  | .burstEnd | .listenWindowExpiry | .dockSignalLoss | .pageTimeout | .ackTimerExpiry | .resendDelayExpiry | .secondStep
  | .pulseWatchExpiry | .streamStopped _ | .vanByteGapTimeout | .vddGood => true
  | _ => false

variable {s : State} {i : Instr}

theorem mem_dueRow {due : Bool} {row : Instr} : i ∈ dueRow due row ↔ due = true ∧ i = row := by
  cases due <;> simp [dueRow]

theorem whenRunning_completes (act : State → State) : ∃ t, whenRunning s act = .next t := ⟨_, whenRunning_next s act⟩

theorem execVddGood_completes : ∃ t, execVddGood s = .next t := by
  unfold execVddGood
  split <;> exact ⟨_, rfl⟩

theorem completes_of_row {row : State → Host.Outcome State Fault Refusal} (h : exec i s = row s)
    (hr : ∃ t, row s = .next t) : ∃ t, exec i s = .next t := by rwa [h]

/-- An expiry row always completes. -/
theorem exec_expiry (h : isExpiry i = true) : ∃ t, exec i s = .next t := by
  unfold isExpiry at h
  split at h
  case h_1 n => exact completes_of_row (row := execMuteHoldExpiry n) rfl (whenRunning_completes _)
  case h_2 n => exact completes_of_row (row := execHoldTimerExpiry n) rfl (whenRunning_completes _)
  case h_3 n => exact completes_of_row (row := execGatherLimitExpiry n) rfl (whenRunning_completes _)
  case h_4 n => exact completes_of_row (row := execDwellTimerExpiry n) rfl (whenRunning_completes _)
  case h_5 => exact completes_of_row (row := execGuardComplete) rfl (whenRunning_completes _)
  case h_6 => exact completes_of_row (row := execClearWaitExpiry) rfl (whenRunning_completes _)
  case h_7 => exact completes_of_row (row := execBurstEnd) rfl (whenRunning_completes _)
  case h_8 => exact completes_of_row (row := execListenWindowExpiry) rfl (whenRunning_completes _)
  case h_9 => exact completes_of_row (row := execDockSignalLoss) rfl (whenRunning_completes _)
  case h_10 => exact completes_of_row (row := execPageTimeout) rfl (whenRunning_completes _)
  case h_11 => exact completes_of_row (row := execAckTimerExpiry) rfl (whenRunning_completes _)
  case h_12 => exact completes_of_row (row := execResendDelayExpiry) rfl (whenRunning_completes _)
  case h_13 => exact completes_of_row (row := execSecondStep) rfl (whenRunning_completes _)
  case h_14 => exact completes_of_row (row := execPulseWatchExpiry) rfl (whenRunning_completes _)
  case h_15 n => exact completes_of_row (row := execStreamStopped n) rfl (whenRunning_completes _)
  case h_16 => exact completes_of_row (row := execVanByteGapTimeout) rfl (whenRunning_completes _)
  case h_17 => exact completes_of_row (row := execVddGood) rfl execVddGood_completes
  case h_18 => cases h

/-- Rows that always complete can be taken one after another. -/
theorem State.runs_after (l : List Instr) (hl : ∀ i ∈ l, isExpiry i = true) (s : State) : s.runs l (l.foldl State.after s) := by
  induction l generalizing s with
  | nil => rfl
  | cons i rest ih =>
    obtain ⟨u, hu⟩ := exec_expiry (s := s) (hl i List.mem_cons_self)
    have ha : s.after i = u := by simp [State.after, hu]
    refine ⟨u, hu, ?_⟩
    rw [List.foldl_cons, ha]
    exact ih (fun j hj => hl j (List.mem_cons_of_mem i hj)) u

end Expiries

section DueRows

/-! ## Which rows are due (R4, R14, R55, R80, R133 to R136, R144, R149, R155, R164, R165, R173) -/

variable {s : State} {i : Instr}

theorem mem_insertByAge (e x : Entry) (l : List Entry) : x ∈ insertByAge e l ↔ x = e ∨ x ∈ l := by
  induction l with
  | nil => simp [insertByAge]
  | cons y rest ih =>
    unfold insertByAge
    split
    · simp
    · simp only [List.mem_cons, ih]
      exact or_left_comm

theorem mem_byAge (x : Entry) (l : List Entry) : x ∈ byAge l ↔ x ∈ l := by
  induction l with
  | nil => simp [byAge]
  | cons y rest ih =>
    rw [List.mem_cons, ← ih]
    exact mem_insertByAge y x (byAge rest)

theorem Capture.mem_gatheringByAge (c : Capture) (e : Entry) : e ∈ c.gatheringByAge ↔ e ∈ c.heard ∧ e.final = none := by
  rw [Capture.gatheringByAge, mem_byAge, List.mem_filter]
  simp [Entry.gathering]

theorem Capture.mem_dueRows (c : Capture) : i ∈ c.dueRows ↔ ∃ e ∈ c.heard, e.final = none ∧
    (e.hold.limit ≤ e.hold.elapsed ∧ i = .holdTimerExpiry e.stop ∨
      e.gather.limit ≤ e.gather.elapsed ∧ i = .gatherLimitExpiry e.stop) := by
  simp only [Capture.dueRows, List.mem_flatMap, Capture.mem_gatheringByAge, List.mem_append, mem_dueRow, Timer.due,
    decide_eq_true_eq, and_assoc]

theorem Timer.any_due (x : Option Timer) : x.any (·.due) = true ↔ ∃ d, x = some d ∧ d.limit ≤ d.elapsed := by
  simp [Option.any_eq_true, Timer.due]

theorem Clock.mem_dueRows (c : Clock) : i ∈ c.dueRows ↔ c.state ≠ .unset ∧ c.stepDue = true ∧ i = .secondStep ∨
    c.watchPresent = true ∧ (∃ n, c.sincePulse = some n ∧ 2500 ≤ n) ∧ i = .pulseWatchExpiry := by
  simp [Clock.dueRows, mem_dueRow, Option.any_eq_true, and_assoc]

theorem State.mem_dwellDueRows : i ∈ s.dwellDueRows ↔ s.route.state = .active ∧ ∃ n ∈ s.tracker.openOrder,
    (∃ g, s.route.segments[n]? = some g ∧ g.state = .opened ∧ g.dwellLimit ≠ 0 ∧ 1000 * g.dwellLimit ≤ g.dwellElapsed) ∧
      i = .dwellTimerExpiry n := by
  unfold State.dwellDueRows
  split
  · simp [*, mem_dueRow, Option.any_eq_true, Segment.dwellDue, Segment.dwellRuns, and_assoc]
  · simp [*]

theorem Exchange.timer_runOut (x : Option Exchange) : (∃ d, x.bind Exchange.timer = some d ∧ d.limit ≤ d.elapsed) ↔
    ∃ d, (x = some (.abilityWait d) ∨ x = some (.routeWait d)) ∧ d.limit ≤ d.elapsed := by
  cases x with
  | none => simp
  | some e => cases e <;> simp [Exchange.timer]

theorem Block.timer_runOut (x : Option Block) : (∃ d, x.bind (·.timer) = some d ∧ d.limit ≤ d.elapsed) ↔
    ∃ b, x = some b ∧ ∃ d, b.timer = some d ∧ d.limit ≤ d.elapsed := by
  cases x <;> simp

theorem Dock.mem_dueRows (d : Dock) : i ∈ d.dueRows ↔
    (∃ x, d.watch = some x ∧ x.limit ≤ x.elapsed) ∧ i = .dockSignalLoss ∨
    (∃ x, (d.exchange = some (.abilityWait x) ∨ d.exchange = some (.routeWait x)) ∧ x.limit ≤ x.elapsed) ∧ i = .pageTimeout ∨
    (∃ b, d.outstanding = some b ∧ ∃ x, b.timer = some x ∧ x.limit ≤ x.elapsed) ∧ i = .ackTimerExpiry ∨
    (∃ x, d.resend = some x ∧ x.limit ≤ x.elapsed) ∧ i = .resendDelayExpiry := by
  simp only [Dock.dueRows, List.mem_append, mem_dueRow, Timer.any_due, Exchange.timer_runOut, Block.timer_runOut, or_assoc]

theorem TxState.mem_dueRows (x : TxState) (clear : Bool) : i ∈ x.dueRows clear ↔
    (∃ q guard wait, x = .clearing q guard wait ∧ 5 ≤ guard ∧ clear = true) ∧ i = .guardComplete ∨
    (∃ q guard wait, x = .clearing q guard wait ∧ wait.limit ≤ wait.elapsed) ∧ i = .clearWaitExpiry ∨
    (∃ q token c burst, x = .keyed q token c burst ∧ burst.limit ≤ burst.elapsed) ∧ i = .burstEnd ∨
    (∃ q token c window, x = .listen q token c window ∧ window.limit ≤ window.elapsed) ∧ i = .listenWindowExpiry := by
  cases x with
  | clearing q guard wait => simp [TxState.dueRows, mem_dueRow, Timer.due, and_comm, and_left_comm]
  | _ => simp [TxState.dueRows, mem_dueRow, Timer.due]

theorem Van.mem_dueRows (v : Van) : i ∈ v.dueRows ↔
    (v.rx.bytes ≠ [] ∧ v.rx.gap.limit ≤ v.rx.gap.elapsed) ∧ i = .vanByteGapTimeout := by
  cases hrx : v.rx <;> simp [Van.dueRows, mem_dueRow, hrx, Reception.bytes, Reception.gap, Timer.due]

/-- What is due while the part works. -/
theorem State.mem_dueRows_running (h : s.running = true) : i ∈ s.dueRows ↔
    i ∈ s.clock.dueRows ∨
    (∃ n : ChannelNo, (∃ d, s.channels[n].stream = some d ∧ d.limit ≤ d.elapsed) ∧ i = .streamStopped n) ∨
    (∃ n : ChannelNo, (s.channels[n].state = .muted ∧ ∃ d, s.channels[n].muteHold = some d ∧ d.limit ≤ d.elapsed) ∧
      i = .muteHoldExpiry n) ∨
    i ∈ s.capture.dueRows ∨ i ∈ s.dwellDueRows ∨ i ∈ s.tx.state.dueRows s.channels[(0 : ChannelNo)].clear ∨
    i ∈ s.dock.dueRows ∨ i ∈ s.van.dueRows := by
  have hm : s.supply.monitor = .run := by simpa [State.running] using h
  simp only [State.dueRows, hm, List.mem_append, List.mem_flatMap, List.mem_finRange, true_and, mem_dueRow, Timer.any_due,
    Channel.muteHoldDue, Bool.and_eq_true, beq_iff_eq, or_assoc]

/-- What is due while the part does not work. -/
theorem State.mem_dueRows_stopped (h : ¬s.running = true) : i ∈ s.dueRows ↔
    ((s.supply.monitor = .dip ∨ s.supply.monitor = .off) ∧ ∃ d, s.supply.goodCount = some d ∧ d.limit ≤ d.elapsed) ∧
      i = .vddGood := by
  cases hm : s.supply.monitor <;> simp_all [State.running, State.dueRows, mem_dueRow, Option.any_eq_true, Timer.due]

/-- Nothing but expiries is due. -/
theorem State.dueRows_expiry (h : i ∈ s.dueRows) : isExpiry i = true ∧ (s.running = true ∨ i = .vddGood) := by
  by_cases hr : s.running = true
  · refine ⟨?_, .inl hr⟩
    rw [State.mem_dueRows_running hr, Clock.mem_dueRows, Capture.mem_dueRows, State.mem_dwellDueRows, TxState.mem_dueRows,
      Dock.mem_dueRows, Van.mem_dueRows] at h
    rcases h with (⟨-, -, rfl⟩ | ⟨-, -, rfl⟩) | ⟨n, -, rfl⟩ | ⟨n, -, rfl⟩ | ⟨e, -, -, ⟨-, rfl⟩ | ⟨-, rfl⟩⟩ | ⟨-, n, -, -, rfl⟩ |
      (⟨-, rfl⟩ | ⟨-, rfl⟩ | ⟨-, rfl⟩ | ⟨-, rfl⟩) | (⟨-, rfl⟩ | ⟨-, rfl⟩ | ⟨-, rfl⟩ | ⟨-, rfl⟩) | ⟨-, rfl⟩ <;> rfl
  · rw [State.mem_dueRows_stopped hr] at h
    obtain ⟨-, rfl⟩ := h
    exact ⟨rfl, .inr rfl⟩

end DueRows

section Counting

/-! ## One millisecond counted (R170) -/

theorem Channel.clear_eq (c : Channel) :
    c.clear = ((match c.decoder with | .header _ | .body .. => false | .off | .hunt | .blanked => true) &&
      !(c.entry.cdUsed && c.cdPin == c.entry.cdHigh)) := by
  unfold Channel.clear Channel.carrier
  cases c.decoder <;> cases c.entry.cdUsed <;> simp [Decoder.inProgress]

theorem Entry.tick_eq (e : Entry) :
    e.tick = if e.final = none then { e with hold := e.hold.tick, gather := e.gather.tick } else e := by
  unfold Entry.tick
  cases hf : e.final <;> simp

theorem Segment.tick_eq (g : Segment) : g.tick = if g.state = .opened ∧ g.dwellLimit ≠ 0 then
    { g with dwellElapsed := min (g.dwellElapsed + 1) (1000 * g.dwellLimit) } else g := by
  unfold Segment.tick Segment.dwellRuns
  simp

end Counting

section Settled

variable {s : State}

theorem Route.tick_inactive {r : Route} (h : r.state ≠ .active) : r.tick = r := by rw [Route.tick, if_neg h]

theorem State.tickStart_eq (s : State) :
    s.tickStart = if s.route.state = .active ∧ ∃ x, s.supply.starting = some x ∧ x.next = .hello then
      { s with route := s.route.tick } else s := by
  have hany : s.supply.starting.any (·.next == .hello) = true ↔ ∃ x, s.supply.starting = some x ∧ x.next = .hello := by
    simp [Option.any_eq_true]
  rw [State.tickStart, if_congr hany rfl rfl]
  by_cases ha : s.route.state = .active
  · rw [if_congr (and_iff_right ha) rfl rfl]
    rfl
  · have hkept : s.modRoute Route.tick = s := by rw [State.modRoute, Route.tick_inactive ha]
    rw [hkept, ite_self, if_neg fun h => ha h.1]

theorem vddGood_not_due_running (h : s.running = true) : Instr.vddGood ∉ s.dueRows := by
  rw [State.mem_dueRows_running h, Clock.mem_dueRows, Capture.mem_dueRows, State.mem_dwellDueRows, TxState.mem_dueRows,
    Dock.mem_dueRows, Van.mem_dueRows]
  simp

theorem vddGood_due_iff : Instr.vddGood ∈ s.dueRows ↔
    (s.supply.monitor = .dip ∨ s.supply.monitor = .off) ∧ ∃ d, s.supply.goodCount = some d ∧ d.limit ≤ d.elapsed := by
  by_cases hr : s.running = true
  · have hm : s.supply.monitor = .run := by simpa [State.running] using hr
    simp [vddGood_not_due_running hr, hm]
  · rw [State.mem_dueRows_stopped hr, and_iff_left rfl]

/-- Settles O3: the expiries due are taken in turn, and the durations of each monitor state count on. -/
theorem idleStepIsOneMillisecond : Obligations.IdleStepIsOneMillisecond := by
  intro s hp due runOut ch0 next dwelling isClear
  have hclear : ∀ c : Channel, c.clear = isClear c := Channel.clear_eq
  have hdwell : ∀ r : Route, r.tick = dwelling r := fun r => by
    simp only [Route.tick, funext Segment.tick_eq]
    rfl
  refine ⟨⟨s.dueRows.foldl State.after s, (s.dueRows.foldl State.after s).count,
    State.runs_after _ (fun i hi => (State.dueRows_expiry hi).1) s, by rw [step, hp]; rfl, ?_⟩, fun hr => ?_,
    vddGood_due_iff, fun i hi => ?_⟩
  · generalize s.dueRows.foldl State.after s = m
    refine ⟨fun hm => ?_, fun hm => ?_, fun hm => ?_, fun hm => ?_⟩ <;> rw [State.count]
    · rw [hm]
      refine ⟨fun n => ofFn_channel _ n, rfl, ?_, hdwell m.route, ?_, rfl, rfl, fun b hb => ?_⟩
      · simp only [State.tickRun, funext Entry.tick_eq]
        rfl
      · simp only [State.tickRun, hclear]
        cases m.tx.state <;> rfl
      · cases b <;> simp_all [State.agree, State.tickRun]
    · obtain hm | hm := hm <;> rw [hm] <;> rfl
    · rw [hm, ← hdwell]
      exact m.tickStart_eq
    · rw [hm]
  · have hmem := fun i => State.mem_dueRows_running (i := i) hr
    simp only [Clock.mem_dueRows, Capture.mem_dueRows, State.mem_dwellDueRows, TxState.mem_dueRows, Dock.mem_dueRows,
      Van.mem_dueRows, hclear] at hmem
    refine ⟨fun n => ⟨?_, ?_⟩, ?_, fun i => ⟨?_, ?_⟩, fun n => ?_, ?_, ?_, ?_, ?_, ?_, ?_, ?_, ?_, ?_, ?_⟩
    all_goals refine (hmem _).trans ?_
    -- of the rows listed, those of the duration asked for are left
    all_goals simp only [reduceCtorEq, and_false, or_false, false_or, exists_false, and_true, Instr.muteHoldExpiry.injEq,
      Instr.streamStopped.injEq, Instr.holdTimerExpiry.injEq, Instr.gatherLimitExpiry.injEq, Instr.dwellTimerExpiry.injEq,
      exists_eq_right', runOut, ne_eq]
    · exact ⟨fun ⟨e, he, hf, hd, hi⟩ => ⟨e, he, hf, hi.symm, hd⟩, fun ⟨e, he, hf, hi, hd⟩ => ⟨e, he, hf, hd, hi.symm⟩⟩
    · exact ⟨fun ⟨e, he, hf, hd, hi⟩ => ⟨e, he, hf, hi.symm, hd⟩, fun ⟨e, he, hf, hi, hd⟩ => ⟨e, he, hf, hd, hi.symm⟩⟩
    · exact ⟨fun ⟨ha, m, hm, hg, hi⟩ => ⟨ha, hi ▸ hm, hi ▸ hg⟩, fun ⟨ha, hm, hg⟩ => ⟨ha, n, hm, hg, rfl⟩⟩
    · exact Iff.rfl
  · obtain ⟨he, hr⟩ := State.dueRows_expiry hi
    refine ⟨hr, ?_⟩
    cases i <;> trivial

end Settled

end Sys2Proof.Machine

namespace Sys2Proof.Machine

section Tables

/-! ## One item of a table replaced -/

variable {α : Type}

theorem modify_eq_set_of_getElem? {l : List α} {i : Nat} {a : α} (h : l[i]? = some a) (f : α → α) :
    l.modify i f = l.set i (f a) := by
  rw [List.modify_eq_set_getElem?, h]
  rfl

/-- Replacing one item moves a count by what the two items add to it. -/
theorem countP_set_add {l : List α} {i : Nat} {a : α} (h : l[i]? = some a) (b : α) (P : α → Bool) :
    (l.set i b).countP P + (P a).toNat = l.countP P + (P b).toNat := by
  induction l generalizing i with
  | nil => simp at h
  | cons x l ih =>
    cases i with
    | zero =>
      obtain rfl : x = a := by simpa using h
      simp only [List.set_cons_zero, List.countP_cons]
      cases P x <;> cases P b <;> simp
    | succ i =>
      have hi := ih (i := i) (by simpa using h)
      simp only [List.set_cons_succ, List.countP_cons]
      omega

/-- A change that a projection does not see leaves the projections of the table as they were. -/
theorem map_modify_eq {β : Type} (g : α → β) (f : α → α) (h : ∀ a, g (f a) = g a) (l : List α) (i : Nat) :
    (l.modify i f).map g = l.map g := by
  refine List.ext_getElem? fun n => ?_
  rw [List.getElem?_map, List.getElem?_map, List.getElem?_modify]
  cases l[n]? with
  | none => rfl
  | some a =>
    by_cases hn : i = n
    · simp [hn, h]
    · simp [hn]

end Tables

section Accounts

/-! ## What the segment accounts read -/

/-- What R42 and R52 speak of: each stop's segment and status, and each segment's counters. -/
def Route.tally (r : Route) : RouteState × List (Nat × Status) × List (Nat × StatusCounts) :=
  (r.state, r.stops.map fun p => (p.segment, p.status), r.segments.map fun g => (g.stopCount, g.counts))

/-- What R46 and R47 speak of: each segment's state, and the open order. -/
def State.openings (s : State) : RouteState × List SegmentState × List Nat :=
  (s.route.state, s.route.segments.map (·.state), s.tracker.openOrder)

/-- From `s` to `t` exact segment counters stay exact (R42, R52), and an exact open order stays exact (R46, R47). -/
def State.keepsAccounts (s t : State) : Prop :=
  (s.route.countersExact → t.route.countersExact) ∧ (s.openOrderExact → t.openOrderExact)

theorem Route.countersExact_of_tally {r q : Route} (h : q.tally = r.tally) (hr : r.countersExact) : q.countersExact := by
  simp only [Route.tally, Prod.mk.injEq] at h
  obtain ⟨hs, hp, hg⟩ := h
  have count (P : Nat × Status → Bool) :
      q.stops.countP (fun p => P (p.segment, p.status)) = r.stops.countP fun p => P (p.segment, p.status) := by
    have := congrArg (List.countP P) hp
    rwa [List.countP_map, List.countP_map] at this
  intro hst n g hn
  have hgn : (r.segments[n]?).map (fun g => (g.stopCount, g.counts)) = some (g.stopCount, g.counts) := by
    rw [← List.getElem?_map, ← hg, List.getElem?_map, hn]
    rfl
  obtain ⟨k, hk, he⟩ := Option.map_eq_some_iff.1 hgn
  obtain ⟨e1, e2⟩ := Prod.mk.injEq .. ▸ he
  obtain ⟨h1, h2⟩ := hr (hs ▸ hst) n k hk
  rw [← e1, ← e2, count fun x => x.1 == n]
  exact ⟨h1, fun st => by rw [h2 st, count fun x => x.1 == n && x.2 == st]⟩

theorem State.openOrderExact_of_openings {s t : State} (h : t.openings = s.openings) (hs : s.openOrderExact) :
    t.openOrderExact := by
  simp only [State.openings, Prod.mk.injEq] at h
  obtain ⟨h1, h2, h3⟩ := h
  have hopen (n : Nat) : (∃ g, t.route.segments[n]? = some g ∧ g.state = .opened) ↔
      ∃ g, s.route.segments[n]? = some g ∧ g.state = .opened := by
    have := congrArg (fun l => l[n]? = some SegmentState.opened) h2
    simpa only [List.getElem?_map, Option.map_eq_some_iff] using iff_of_eq this
  obtain ⟨hd, hl, ha, ho⟩ := hs
  exact ⟨h3 ▸ hd, h3 ▸ hl, fun hn => h3 ▸ ha (h1 ▸ hn), fun n => by rw [h3, ho n, hopen n]⟩

variable {s t u : State}

theorem State.keepsAccounts_refl (s : State) : s.keepsAccounts s := ⟨id, id⟩

theorem State.keepsAccounts.trans (h1 : s.keepsAccounts t) (h2 : t.keepsAccounts u) : s.keepsAccounts u :=
  ⟨h2.1 ∘ h1.1, h2.2 ∘ h1.2⟩

theorem State.keepsAccounts_of_read (h1 : t.route.tally = s.route.tally) (h2 : t.openings = s.openings) :
    s.keepsAccounts t :=
  ⟨Route.countersExact_of_tally h1, State.openOrderExact_of_openings h2⟩

/-- Where route book and tracker stay, so do the accounts. -/
theorem State.keepsAccounts_of_eq (h1 : t.route = s.route) (h2 : t.tracker = s.tracker) : s.keepsAccounts t :=
  State.keepsAccounts_of_read (by rw [h1]) (by simp only [State.openings, h1, h2])

theorem foldl_keepsAccounts {α : Type} {f : State → α → State} (h : ∀ (s : State) (a : α), s.keepsAccounts (f s a)) :
    ∀ (l : List α) (s : State), s.keepsAccounts (l.foldl f s)
  | [], s => s.keepsAccounts_refl
  | a :: l, s => (h s a).trans (foldl_keepsAccounts h l (f s a))

/-! ## The operations on stops and segments -/

/-- A change of the route book that touches no segment number, status, counter or state. -/
theorem State.modRoute_keepsAccounts (s : State) {f : Route → Route} (h1 : (f s.route).tally = s.route.tally)
    (h2 : (f s.route).segments.map (·.state) = s.route.segments.map (·.state)) : s.keepsAccounts (s.modRoute f) :=
  State.keepsAccounts_of_read h1 (by
    have hs : (f s.route).state = s.route.state := congrArg Prod.fst h1
    simp [State.openings, h2, hs])

theorem State.modStop_keepsAccounts (s : State) (i : Nat) {f : Stop → Stop}
    (h : ∀ p, (f p).segment = p.segment ∧ (f p).status = p.status) : s.keepsAccounts (s.modStop i f) :=
  s.modRoute_keepsAccounts (by
    have hm := map_modify_eq (fun p : Stop => (p.segment, p.status)) f (fun p => by simp [h]) s.route.stops i
    simp only [Route.tally, hm]) rfl

theorem State.modSegment_keepsAccounts (s : State) (n : Nat) {f : Segment → Segment}
    (h : ∀ g, (f g).stopCount = g.stopCount ∧ (f g).counts = g.counts ∧ (f g).state = g.state) :
    s.keepsAccounts (s.modSegment n f) :=
  s.modRoute_keepsAccounts (by
    have hm := map_modify_eq (fun g : Segment => (g.stopCount, g.counts)) f (fun g => by simp [h]) s.route.segments n
    simp only [Route.tally, hm])
    (map_modify_eq _ f (fun g => (h g).2.2) _ _)

theorem State.modTracker_keepsAccounts (s : State) {f : Tracker → Tracker}
    (h : (f s.tracker).openOrder = s.tracker.openOrder) : s.keepsAccounts (s.modTracker f) :=
  State.keepsAccounts_of_read rfl (by simp [State.openings, h])

theorem StatusCounts.of_mod (c : StatusCounts) (f : Nat → Nat) (x y : Status) :
    (c.mod f x).of y = if y = x then f (c.of y) else c.of y := by
  cases x <;> cases y <;> rfl

/-- The change of a stop's status in the tables (R42). -/
theorem State.setStatus_route {i : Nat} {p : Stop} (s : State) (h : s.route.stops[i]? = some p) (new : Status)
    (prior : Option Status) : (s.setStatus i new prior).route = { s.route with
      stops := s.route.stops.set i { p with status := new, prior := prior }
      segments := s.route.segments.modify p.segment fun g =>
        { g with counts := (g.counts.mod (· - 1) p.status).mod (· + 1) new } } := by
  simp [State.setStatus, h, State.modStop, State.modSegment, modify_eq_set_of_getElem? h]

theorem State.setStatus_none {i : Nat} (s : State) (h : s.route.stops[i]? = none) (new : Status) (prior : Option Status) :
    s.setStatus i new prior = s := by
  simp [State.setStatus, h]

/-- A stop changes its status and its segment's counters follow in the same change (R42). -/
theorem State.setStatus_keepsAccounts (s : State) (i : Nat) (new : Status) (prior : Option Status) :
    s.keepsAccounts (s.setStatus i new prior) := by
  cases hp : s.route.stops[i]? with
  | none =>
    rw [s.setStatus_none hp]
    exact s.keepsAccounts_refl
  | some p =>
    have hr := s.setStatus_route hp new prior
    refine ⟨fun h => ?_, State.openOrderExact_of_openings ?_⟩
    · rw [hr]
      intro hst n g hn
      simp only [List.getElem?_modify, Option.map_eq_map, Option.map_eq_some_iff] at hn
      obtain ⟨k, hk, rfl⟩ := hn
      obtain ⟨h1, h2⟩ := h hst n k hk
      have hset (P : Stop → Bool) := countP_set_add hp { p with status := new, prior := prior } P
      have hseg : Stop.segment { p with status := new, prior := prior } = p.segment := rfl
      refine ⟨?_, fun st => ?_⟩
      · have hcount := hset fun q => q.segment == n
        simp only [hseg] at hcount
        split <;> simp only [h1] <;> omega
      · have hcount := hset fun q => q.segment == n && q.status == st
        simp only [hseg] at hcount
        have h2 := h2 st
        by_cases hn : p.segment = n
        · simp only [hn, if_true, StatusCounts.of_mod, beq_self_eq_true, Bool.true_and] at hcount ⊢
          have hpos : (if st = p.status then 1 else 0) ≤ s.route.stops.countP fun q => q.segment == n && q.status == st := by
            split
            · rename_i h
              exact List.countP_pos_iff.2 ⟨p, List.mem_of_getElem? hp, by simp [hn, h]⟩
            · exact Nat.zero_le _
          have hbeq (x : Status) : (x == st).toNat = if st = x then 1 else 0 := by
            by_cases hx : st = x
            · simp [hx]
            · simp [hx, Ne.symm hx]
          rw [hbeq, hbeq] at hcount
          rw [h2]
          split_ifs at hcount hpos ⊢ <;> omega
        · have hne : (p.segment == n) = false := by simpa using hn
          simp only [hn, if_false, hne, Bool.false_and] at hcount ⊢
          simp only [h2]
          exact (by simpa using hcount.symm)
    · simp only [State.openings, hr, State.setStatus_frame]
      rw [map_modify_eq]
      exact fun _ => rfl

end Accounts
end Sys2Proof.Machine

namespace Sys2Proof.Machine

section AccountOps

variable {s t u : State}

/-- What follows and leaves route book and tracker alone keeps what has been kept so far. -/
theorem State.keepsAccounts.thenSame (h : s.keepsAccounts t) (h1 : u.route = t.route) (h2 : u.tracker = t.tracker) :
    s.keepsAccounts u :=
  h.trans (State.keepsAccounts_of_eq h1 h2)

theorem State.keepsAccounts.occur (h : s.keepsAccounts t) (c : Cause) (d : List Byte) : s.keepsAccounts (t.occur c d) :=
  h.thenSame (by simp) (by simp)

theorem State.keepsAccounts.announceList (h : s.keepsAccounts t) (l : List Cause) : s.keepsAccounts (t.announceList l) :=
  h.thenSame (by simp) (by simp)

theorem State.keepsAccounts.announceDue (h : s.keepsAccounts t) : s.keepsAccounts t.announceDue :=
  h.thenSame (by simp) (by simp)

theorem State.keepsAccounts.noteComplete (h : s.keepsAccounts t) (n before : Nat) :
    s.keepsAccounts (t.noteComplete n before) :=
  h.thenSame (by simp) (by simp)

theorem State.keepsAccounts.refillScan (h : s.keepsAccounts t) : s.keepsAccounts t.refillScan :=
  h.thenSame (by simp) (by simp)

theorem State.keepsAccounts.scanIf (h : s.keepsAccounts t) (called : Bool) : s.keepsAccounts (t.scanIf called) :=
  h.thenSame (by simp) (by simp)

theorem State.keepsAccounts.removePolls (h : s.keepsAccounts t) (named : Nat → Bool) :
    s.keepsAccounts (t.removePolls named) :=
  h.thenSame (by simp) (by simp)

theorem State.keepsAccounts.testFinal (h : s.keepsAccounts t) (i : Nat) : s.keepsAccounts (t.testFinal i) :=
  h.thenSame (by simp) (by simp)

theorem State.joinRevisit_keepsAccounts (s : State) (i : Nat) : s.keepsAccounts (s.joinRevisit i) :=
  s.modTracker_keepsAccounts rfl

theorem State.leaveRevisit_keepsAccounts (s : State) (i : Nat) : s.keepsAccounts (s.leaveRevisit i) :=
  s.modTracker_keepsAccounts rfl

theorem State.stepLate_keepsAccounts (s : State) (n : Nat) : s.keepsAccounts (s.stepLate n) :=
  s.modSegment_keepsAccounts n fun _ => ⟨rfl, rfl, rfl⟩

theorem State.stepLapsed_keepsAccounts (s : State) (n : Nat) : s.keepsAccounts (s.stepLapsed n) :=
  s.modSegment_keepsAccounts n fun _ => ⟨rfl, rfl, rfl⟩

theorem State.returnStop_keepsAccounts (s : State) (i : Nat) : s.keepsAccounts (s.returnStop i) := by
  unfold State.returnStop
  split
  · exact s.keepsAccounts_refl
  · rename_i p _
    dsimp only
    generalize p.returnStatus (s.segmentState p.segment) s.route.state = new
    have hset := s.setStatus_keepsAccounts i new none
    have hjoin : s.keepsAccounts (if new = .missed then (s.setStatus i new none).joinRevisit i else s.setStatus i new none) := by
      split
      · exact hset.trans (State.joinRevisit_keepsAccounts _ i)
      · exact hset
    split
    · exact hjoin.trans (State.stepLapsed_keepsAccounts _ _)
    · exact hjoin

/-! ## The close rule -/

theorem State.missStop_keepsAccounts (s : State) (i : Nat) : s.keepsAccounts (s.missStop i) :=
  (s.setStatus_keepsAccounts i _ _).trans (State.joinRevisit_keepsAccounts _ i)

theorem State.lapseStop_keepsAccounts (s : State) (i : Nat) : s.keepsAccounts (s.lapseStop i) := by
  unfold State.lapseStop
  split
  · exact s.keepsAccounts_refl
  · exact (s.setStatus_keepsAccounts i _ _).trans (State.stepLapsed_keepsAccounts _ _)

/-- Step 5 of the close rule: the segment is CLOSED and leaves the open order (R51). -/
theorem State.shutSegment_keepsAccounts (s : State) (n : Nat) :
    s.keepsAccounts ((s.modSegment n fun g => { g with state := .closed }).modTracker fun t =>
      { t with openOrder := t.openOrder.filter (· ≠ n) }) := by
  refine ⟨Route.countersExact_of_tally ?_, ?_⟩
  · have hm := map_modify_eq (fun g : Segment => (g.stopCount, g.counts)) (fun g => { g with state := .closed })
      (fun g => rfl) s.route.segments n
    simp only [State.modTracker_route, State.modSegment, State.modRoute_route, Route.tally, hm]
  · rintro ⟨hd, hl, ha, ho⟩
    refine ⟨hd.filter _, (List.length_filter_le _ _).trans hl, fun hn => ?_, fun m => ?_⟩
    · have h0 : s.tracker.openOrder = [] := ha hn
      simp [h0]
    · simp only [State.modTracker_tracker, State.modTracker_route, List.mem_filter, ho,
        State.modSegment, State.modRoute_route, List.getElem?_modify, decide_eq_true_eq, State.modRoute_tracker]
      constructor
      · rintro ⟨⟨g, hg, hs⟩, hne⟩
        exact ⟨g, by simp [hg, Ne.symm hne], hs⟩
      · rintro ⟨g, hg, hs⟩
        simp only [Option.map_eq_map, Option.map_eq_some_iff] at hg
        obtain ⟨k, hk, rfl⟩ := hg
        by_cases hne : n = m
        · simp [hne] at hs
        · exact ⟨⟨k, hk, by simpa [hne] using hs⟩, Ne.symm hne⟩

theorem State.closeRule_keepsAccounts (s : State) (n : Nat) (cause : CloseCause) : s.keepsAccounts (s.closeRule n cause) := by
  have hfinal : s.keepsAccounts
      ((s.finaliseAll (s.capture.gatheringByAge.filter fun e => s.inSegment n e.stop)).dropPolls
        ((s.finaliseAll (s.capture.gatheringByAge.filter fun e => s.inSegment n e.stop)).inSegment n)) :=
    State.keepsAccounts_of_eq (by simp) (by simp)
  exact ((((hfinal.trans (foldl_keepsAccounts State.missStop_keepsAccounts _ _)).trans
    (foldl_keepsAccounts State.lapseStop_keepsAccounts _ _)).trans (State.shutSegment_keepsAccounts _ n)).occur _ _).scanIf _

/-- The close rule takes the segment out of the open order and leaves the route-table state (R51). -/
theorem State.closeRule_order (s : State) (n : Nat) (cause : CloseCause) :
    (s.closeRule n cause).tracker.openOrder = s.tracker.openOrder.filter (· ≠ n) ∧
    (s.closeRule n cause).route.state = s.route.state := by
  have hmiss (s : State) (i : Nat) :
      (s.missStop i).tracker.openOrder = s.tracker.openOrder ∧ (s.missStop i).route.state = s.route.state := by
    refine ⟨by simp [State.missStop, State.joinRevisit], ?_⟩
    simp only [State.missStop, State.joinRevisit_frame, State.setStatus]
    split <;> rfl
  have hlapse (s : State) (i : Nat) : (s.lapseStop i).route.state = s.route.state := by
    simp only [State.lapseStop, State.setStatus, State.stepLapsed]
    repeat' split
    all_goals rfl
  simp [State.closeRule, State.modSegment, foldl_keeps (fun s : State => s.tracker),
    foldl_keeps (fun s : State => s.tracker.openOrder) _ fun s i => (hmiss s i).1,
    foldl_keeps (fun s : State => s.route.state) _ fun s i => (hmiss s i).2,
    foldl_keeps (fun s : State => s.route.state) _ hlapse]

/-- Closing every segment of a list takes each out of the open order. -/
theorem closeAll_order (cause : CloseCause) : ∀ (l : List Nat) (s : State),
    (l.foldl (fun s n => s.closeRule n cause) s).tracker.openOrder = s.tracker.openOrder.filter (· ∉ l) ∧
    (l.foldl (fun s n => s.closeRule n cause) s).route.state = s.route.state
  | [], s => by simp
  | n :: l, s => by
    obtain ⟨h1, h2⟩ := closeAll_order cause l (s.closeRule n cause)
    obtain ⟨h3, h4⟩ := s.closeRule_order n cause
    refine ⟨?_, h2.trans h4⟩
    rw [List.foldl_cons, h1, h3, List.filter_filter]
    exact List.filter_congr fun m _ => by simp [Bool.and_comm, eq_comm]

/-- RETIRE_ROUTE closes every OPEN segment before the table is RETIRED (R34). -/
theorem State.retire_keepsAccounts (h : s.route.state = .active) : s.keepsAccounts s.retire := by
  have hclose := foldl_keepsAccounts (fun s n => State.closeRule_keepsAccounts s n .retire) s.tracker.openOrder s
  obtain ⟨horder, hstate⟩ := closeAll_order .retire s.tracker.openOrder s
  unfold State.retire
  dsimp only
  generalize s.tracker.openOrder.foldl (fun s n => s.closeRule n .retire) s = u at hclose horder hstate ⊢
  have hnil : u.tracker.openOrder = [] := by
    rw [horder, List.filter_eq_nil_iff]
    simp
  refine ⟨fun hc => ?_, fun ho => ?_⟩
  · intro _ n g hg
    simp only [State.modRoute_route, State.removePolls_frame, State.finaliseAll_frame] at hg ⊢
    exact hclose.1 hc (.inl (hstate.trans h)) n g hg
  · obtain ⟨-, -, -, hopen⟩ := hclose.2 ho
    refine ⟨by simp [hnil], by simp [hnil], fun _ => by simp [hnil], fun n => ?_⟩
    simpa using hopen n

/-! ## Segments opened, stops skipped, timers -/

theorem State.openSegment_keepsAccounts {n : Nat} {g : Segment} (ha : s.route.state = .active)
    (hg : s.route.segments[n]? = some g) (hn : g.state ≠ .opened) (hl : s.tracker.openOrder.length < Config.openCapacity) :
    s.keepsAccounts (s.openSegment n) := by
  refine State.keepsAccounts.thenSame (t := (s.modSegment n fun g => { g with state := .opened, dwellElapsed := 0 }).modTracker
    fun t => { t with openOrder := t.openOrder ++ [n] }) ?_ (by simp [State.openSegment]) (by simp [State.openSegment])
  refine ⟨Route.countersExact_of_tally ?_, ?_⟩
  · have hm := map_modify_eq (fun g : Segment => (g.stopCount, g.counts))
      (fun g => { g with state := .opened, dwellElapsed := 0 }) (fun g => rfl) s.route.segments n
    simp only [State.modTracker_route, State.modSegment, State.modRoute_route, Route.tally, hm]
  · rintro ⟨hd, -, -, ho⟩
    have hnot : n ∉ s.tracker.openOrder := fun hm => by
      obtain ⟨k, hk, hs⟩ := (ho n).1 hm
      exact hn (Option.some.inj (hk.symm.trans hg) ▸ hs)
    refine ⟨?_, ?_, fun hne => absurd ha hne, fun m => ?_⟩
    · simpa [List.nodup_append] using ⟨hd, fun a ha h => hnot (h ▸ ha)⟩
    · simpa using hl
    · simp only [State.modTracker_tracker, State.modTracker_route, List.mem_append, List.mem_singleton,
        State.modSegment, State.modRoute_tracker, State.modRoute_route, ho, List.getElem?_modify]
      by_cases hm : n = m
      · subst hm
        simp [hg]
      · simp [hm, Ne.symm hm]

theorem State.skipStop_keepsAccounts (s : State) (i : Nat) (p : Stop) : s.keepsAccounts (s.skipStop i p) := by
  have hset := s.setStatus_keepsAccounts i .skipped none
  unfold State.skipStop
  dsimp only
  split
  · exact ((hset.trans (State.leaveRevisit_keepsAccounts _ i)).removePolls _).noteComplete _ _
  · exact (hset.removePolls _).noteComplete _ _

theorem State.unskipStop_keepsAccounts (s : State) (i : Nat) (p : Stop) : s.keepsAccounts (s.unskipStop i p) := by
  unfold State.unskipStop
  split
  · exact (s.missStop_keepsAccounts i).refillScan
  · exact (s.setStatus_keepsAccounts i _ _).refillScan

theorem State.dwellExpiry_keepsAccounts (s : State) (n : Nat) (mode : DwellMode) : s.keepsAccounts (s.dwellExpiry n mode) := by
  have hoccur := s.keepsAccounts_refl.occur .segmentDwell (u8 n ++ u8 mode.code)
  unfold State.dwellExpiry
  cases mode with
  | close => exact (hoccur.trans (State.closeRule_keepsAccounts _ n .dwell)).announceList _
  | warn => exact hoccur.trans (State.modSegment_keepsAccounts _ n fun _ => ⟨rfl, rfl, rfl⟩)

/-! ## Capture, completion and polls -/

theorem State.openEntry_keepsAccounts (s : State) (i : Nat) (prior : Status) (f : Frame) (m u : Bool) :
    s.keepsAccounts (s.openEntry i prior f m u) := by
  have hgather : s.keepsAccounts (s.modCapture fun c =>
      { c with heard := c.heard ++ [s.newEntry i prior f m u], nextCreation := c.nextCreation + 1 }) :=
    State.keepsAccounts_of_eq rfl rfl
  exact ((hgather.trans (State.setStatus_keepsAccounts _ i _ _)).removePolls _).testFinal i

theorem State.openOrEvict_keepsAccounts (s : State) (i : Nat) (prior : Status) (f : Frame) (m u : Bool) :
    s.keepsAccounts (s.openOrEvict i prior f m u) := by
  unfold State.openOrEvict
  split
  · exact s.openEntry_keepsAccounts i prior f m u
  · split
    · exact State.keepsAccounts_of_eq (by simp) (by simp)
    · rename_i oldest _ _
      have hevict : s.keepsAccounts ((s.finalise oldest.stop).countCapture fun k => { k with evictions := k.evictions + 1 }) :=
        State.keepsAccounts_of_eq (by simp) (by simp)
      dsimp only
      split
      · exact hevict.trans (State.openEntry_keepsAccounts _ i prior f m u)
      · exact hevict.thenSame (by simp) (by simp)

theorem State.settledFrame_keepsAccounts (s : State) (i : Nat) (p : Stop) (f : Frame) (m : Bool) :
    s.keepsAccounts (s.settledFrame i p f m) := by
  unfold State.settledFrame
  split
  · exact State.keepsAccounts_of_eq (by simp) (by simp)
  · split
    · exact s.openOrEvict_keepsAccounts i _ f m _
    · exact State.keepsAccounts_of_eq (by simp) (by simp)

theorem State.classify_keepsAccounts (s : State) (f : Frame) (m : Bool) : s.keepsAccounts (s.classify f m) := by
  unfold State.classify
  split
  · exact State.keepsAccounts_of_eq (by simp) (by simp)
  · split
    · exact State.keepsAccounts_of_eq (by simp) (by simp)
    · unfold State.stopFrame
      split
      · exact State.keepsAccounts_of_eq (by simp) (by simp)
      · exact s.settledFrame_keepsAccounts _ _ f m
      · exact s.settledFrame_keepsAccounts _ _ f m
      · exact s.openOrEvict_keepsAccounts _ _ f m _
      · exact s.openOrEvict_keepsAccounts _ _ f m _
      · exact s.openOrEvict_keepsAccounts _ _ f m _
      · exact State.keepsAccounts_of_eq (by simp) (by simp)

theorem State.commitStop_keepsAccounts (s : State) (i : Nat) (r : Record) (asked followup : Bool) :
    s.keepsAccounts (s.commitStop i r asked followup) := by
  unfold State.commitStop
  split
  · exact s.keepsAccounts_refl
  · rename_i p _
    dsimp only
    generalize commitStatus r.recClass (p.recordCount == 0) asked followup s.route.state (s.segmentState p.segment) = new
    have hset : s.keepsAccounts ((s.modStop i fun q => q.withRecord r).setStatus i new.1 none) :=
      (s.modStop_keepsAccounts i (f := fun q => q.withRecord r) fun _ => ⟨rfl, rfl⟩).trans
        (State.setStatus_keepsAccounts _ i _ _)
    generalize (s.modStop i fun q => q.withRecord r).setStatus i new.1 none = v at hset ⊢
    have hlapse : s.keepsAccounts (if new.2 = true then v.stepLapsed p.segment else v) := by
      split
      · exact hset.trans (v.stepLapsed_keepsAccounts _)
      · exact hset
    refine State.keepsAccounts.noteComplete ?_ _ _
    split
    · exact (hlapse.trans (State.stepLate_keepsAccounts _ _)).trans (State.leaveRevisit_keepsAccounts _ i)
    · exact hlapse

theorem State.completeCheck_keepsAccounts (s : State) (c : Check) : s.keepsAccounts (s.completeCheck c) := by
  have hidle : s.keepsAccounts (s.modCheck fun _ => none) := State.keepsAccounts_of_eq rfl rfl
  unfold State.completeCheck
  refine hidle.trans ?_
  generalize s.modCheck (fun _ => none) = v
  dsimp only
  split
  · have happend (r : Record) : v.keepsAccounts (v.modStore fun k => k.append r) := State.keepsAccounts_of_eq rfl rfl
    unfold State.commitReading
    exact ((happend _).trans (State.commitStop_keepsAccounts _ c.entry.stop _ _ _)).thenSame (by simp; rfl) (by simp)
  · unfold State.discardReading
    exact (v.returnStop_keepsAccounts c.entry.stop).thenSame (by simp) (by simp)

theorem State.expirePoll_keepsAccounts (s : State) (e : PollEntry) (cancelled : Bool) :
    s.keepsAccounts (s.expirePoll e cancelled) := by
  have hattempt := s.modStop_keepsAccounts e.stop (f := fun p => { p with attempts := satStep Config.maxAttempts p.attempts })
    fun _ => ⟨rfl, rfl⟩
  unfold State.expirePoll
  dsimp only
  split <;> exact hattempt.thenSame (by simp) (by simp)

/-! ## Loads -/

theorem State.keepsAccounts_of_empty (h1 : t.route.state ≠ .active) (h2 : t.route.state ≠ .retired)
    (h3 : ∀ g ∈ t.route.segments, g.state ≠ .opened) (h4 : t.tracker.openOrder = []) : s.keepsAccounts t := by
  refine ⟨fun _ h => (h.elim h1 h2).elim, fun _ => ⟨by simp [h4], by simp [h4], fun _ => h4, fun n => ?_⟩⟩
  simp only [h4, List.not_mem_nil, false_iff, not_exists, not_and]
  exact fun g hg => h3 g (List.mem_of_getElem? hg)

/-- An EMPTY route has nothing to account for (R31, R35). -/
theorem State.abandonRoute_keepsAccounts (s : State) : s.keepsAccounts s.abandonRoute :=
  State.keepsAccounts_of_empty nofun nofun nofun rfl

theorem State.beginLoad_keepsAccounts (s : State) (link : Link) (b : LoadBeginBody) : s.keepsAccounts (s.beginLoad link b) :=
  State.keepsAccounts_of_empty nofun nofun (fun g hg => by rw [List.eq_of_mem_replicate hg]; nofun) rfl

/-- While the route loads, its stops may change: no counter counts them yet (R30). -/
theorem State.keepsAccounts_loading (h : s.route.state = .loading) (h1 : t.openings = s.openings) : s.keepsAccounts t := by
  have hs : t.route.state = .loading := (congrArg Prod.fst h1).trans h
  exact ⟨fun _ h => by simp [hs] at h, State.openOrderExact_of_openings h1⟩

theorem State.writeStops_openings (records : List StopRecord) : ∀ (s : State) (i : Nat),
    (s.writeStops i records).openings = s.openings := by
  induction records with
  | nil => exact fun _ _ => rfl
  | cons p rest ih => exact fun s i => ih _ _

/-- LOAD_END takes the route out of LOADING; no segment is OPEN then (R29). -/
theorem State.endLoad_keepsAccounts (h : s.route.state = .loading) :
    s.keepsAccounts (s.modRoute fun r => { r with state := .activating, owner := none }) := by
  refine ⟨fun _ h => by simp at h, ?_⟩
  rintro ⟨hd, hl, ha, ho⟩
  exact ⟨hd, hl, fun _ => ha (by simp [h]), ho⟩

theorem Route.activate_countersExact (r : Route) : r.activate.countersExact := by
  intro _ n g hg
  simp only [Route.activate, List.getElem?_mapIdx, Option.map_eq_some_iff] at hg
  obtain ⟨k, -, rfl⟩ := hg
  have hstops (P : Stop → Bool) : r.activate.stops.countP P = r.stops.countP fun p => P p.activated := by
    simp [Route.activate, List.countP_map, Function.comp_def]
  have hseg (p : Stop) : p.activated.segment = p.segment := rfl
  have hunread (p : Stop) : p.activated.status = .unread := rfl
  refine ⟨by simp only [Route.activatedSegment, hstops, hseg], fun st => ?_⟩
  have hbeq (st : Status) : (Status.unread == st) = decide (Status.unread = st) := rfl
  cases st <;> simp [hstops, hseg, hunread, hbeq, Route.activatedSegment, StatusCounts.of]

/-- At activation every stop is UNREAD and every segment PENDING (R30). -/
theorem State.activateRoute_keepsAccounts (h : s.route.state = .activating) : s.keepsAccounts s.activateRoute := by
  refine ⟨fun _ => by simpa [State.activateRoute] using s.route.activate_countersExact, ?_⟩
  rintro ⟨-, -, ha, -⟩
  have h0 : s.tracker.openOrder = [] := ha (by simp [h])
  refine ⟨by simp [h0], by simp [h0], fun _ => by simp [h0], fun n => ?_⟩
  simp only [State.activateRoute_frame, h0, List.not_mem_nil, false_iff, not_exists, not_and]
  intro g hg
  simp only [State.activateRoute, State.occur_frame, State.modCapture_route, State.modRoute_route, Route.activate,
    List.getElem?_mapIdx, Option.map_eq_some_iff] at hg
  obtain ⟨k, -, rfl⟩ := hg
  nofun

end AccountOps
end Sys2Proof.Machine

namespace Sys2Proof.Machine

section AccountRows

variable {s t u : State}

theorem whenRunning_keepsAccounts {act : State → State} (ha : s.keepsAccounts (act s)) (ht : whenRunning s act = .next t) :
    s.keepsAccounts t := by
  rw [whenRunning_next, Host.Outcome.next.injEq] at ht
  subst ht
  split
  · exact ha.announceDue
  · exact s.keepsAccounts_refl

/-! ## The dock link -/

theorem State.discardDockLoad_keepsAccounts (s : State) : s.keepsAccounts s.discardDockLoad := by
  unfold State.discardDockLoad
  split
  · exact s.abandonRoute_keepsAccounts
  · exact s.keepsAccounts_refl

/-- Leaving a session discards at most a load of the dock link (R32, R151). -/
theorem State.leaveLink_keepsAccounts (s : State) : s.keepsAccounts s.leaveLink := by
  have hsession : s.keepsAccounts (((s.countDock fun k => { k with linkDown := k.linkDown + 1, wasDown := true }).modStore
      Store.returnInFlight).modDock Dock.dropSession) := State.keepsAccounts_of_eq rfl rfl
  unfold State.leaveLink
  split
  · exact hsession.trans (State.discardDockLoad_keepsAccounts _)
  · exact hsession.trans (State.discardDockLoad_keepsAccounts _)
  all_goals exact State.keepsAccounts_of_eq rfl rfl

theorem State.enterAlign_keepsAccounts (s : State) (cause : DockCause) : s.keepsAccounts (s.enterAlign cause) :=
  s.leaveLink_keepsAccounts.thenSame (by simp [State.enterAlign]) (by simp [State.enterAlign])

theorem State.enterFault_keepsAccounts (s : State) (cause : DockCause) : s.keepsAccounts (s.enterFault cause) :=
  s.leaveLink_keepsAccounts.thenSame (by simp [State.enterFault]) (by simp [State.enterFault])

theorem State.enterDown_keepsAccounts (s : State) (cause : DockCause) : s.keepsAccounts (s.enterDown cause) := by
  unfold State.enterDown
  dsimp only
  split
  · exact State.keepsAccounts_of_eq rfl rfl
  · split <;> exact s.leaveLink_keepsAccounts.thenSame (by simp) (by simp)

theorem State.exchangeFailure_keepsAccounts (s : State) (cause : DockCause) : s.keepsAccounts (s.exchangeFailure cause) := by
  have hcount : s.keepsAccounts ((s.countDock fun k => { k with exchangeFailures := k.exchangeFailures + 1 }).modDock fun d =>
      { d with failures := d.failures + 1 }) := State.keepsAccounts_of_eq rfl rfl
  unfold State.exchangeFailure
  dsimp only
  split
  · exact hcount.trans (State.enterFault_keepsAccounts _ _)
  · exact hcount.trans (State.enterAlign_keepsAccounts _ _)

theorem State.judgeAbility_keepsAccounts (s : State) (p : AbilityPage) : s.keepsAccounts (s.judgeAbility p) := by
  unfold State.judgeAbility
  split
  · exact s.enterFault_keepsAccounts _
  · split
    · exact s.enterFault_keepsAccounts _
    · exact State.keepsAccounts_of_eq (by simp) (by simp)

theorem State.dockArrive_keepsAccounts (s : State) (a : DockArrival) : s.keepsAccounts (s.dockArrive a) := by
  unfold State.dockArrive
  split
  case h_4 =>
    split
    case h_2 => exact s.judgeAbility_keepsAccounts _
    case h_3 => split <;> exact State.keepsAccounts_of_eq (by simp) (by simp)
    case h_4 => split <;> exact State.keepsAccounts_of_eq (by simp) (by simp)
    all_goals exact State.keepsAccounts_of_eq (by simp) (by simp)
  case h_5 | h_6 => split <;> exact State.keepsAccounts_of_eq (by simp) (by simp)
  all_goals exact s.keepsAccounts_refl

theorem State.sendEnded_keepsAccounts (s : State) (role : DockRole) : s.keepsAccounts (s.sendEnded role) := by
  unfold State.sendEnded
  split
  case h_2 => exact s.judgeAbility_keepsAccounts _
  all_goals exact State.keepsAccounts_of_eq (by simp) (by simp)

/-! ## Commands -/

theorem actLoadBegin_keepsAccounts (s : State) (link : Link) (b : LoadBeginBody) :
    s.keepsAccounts (actLoadBegin link b s).1 := by
  simp only [actLoadBegin]
  repeat' split
  case h_2 => exact s.beginLoad_keepsAccounts link b
  all_goals exact s.keepsAccounts_refl

theorem actLoadStops_keepsAccounts (s : State) (link : Link) (first : Word16) (records : List StopRecord) :
    s.keepsAccounts (actLoadStops link first records s).1 := by
  simp only [actLoadStops]
  split
  · exact s.keepsAccounts_refl
  · split
    · exact s.keepsAccounts_refl
    · rename_i hl
      split
      · exact s.keepsAccounts_refl
      · exact State.keepsAccounts_loading (not_not.1 hl) (State.writeStops_openings records s _)

theorem actLoadSegment_keepsAccounts (s : State) (link : Link) (b : LoadSegmentBody) :
    s.keepsAccounts (actLoadSegment link b s).1 := by
  simp only [actLoadSegment]
  repeat' split
  case h_3 => exact s.modSegment_keepsAccounts _ fun _ => ⟨rfl, rfl, rfl⟩
  all_goals exact s.keepsAccounts_refl

theorem actLoadEnd_keepsAccounts (s : State) (link : Link) : s.keepsAccounts (actLoadEnd link s).1 := by
  simp only [actLoadEnd]
  split
  · exact s.keepsAccounts_refl
  · split
    · exact s.keepsAccounts_refl
    · rename_i hl
      split
      · exact s.keepsAccounts_refl
      · exact s.keepsAccounts_refl
      · exact State.endLoad_keepsAccounts (not_not.1 hl)

theorem actLoadAbort_keepsAccounts (s : State) (link : Link) : s.keepsAccounts (actLoadAbort link s).1 := by
  simp only [actLoadAbort]
  split
  · exact s.keepsAccounts_refl
  · split
    · exact s.keepsAccounts_refl
    · exact s.abandonRoute_keepsAccounts

theorem actRetireRoute_keepsAccounts (s : State) : s.keepsAccounts (actRetireRoute s).1 := by
  unfold actRetireRoute
  split
  · exact s.keepsAccounts_refl
  · rename_i ha
    exact State.retire_keepsAccounts (not_not.1 ha)

theorem actClearRoute_keepsAccounts (s : State) : s.keepsAccounts (actClearRoute s).1 := by
  unfold actClearRoute
  split_ifs
  case neg => exact s.abandonRoute_keepsAccounts
  all_goals exact s.keepsAccounts_refl

theorem actSetProfile_keepsAccounts (s : State) (link : Link) (b : SetProfileBody) :
    s.keepsAccounts (actSetProfile link b s).1 := by
  simp only [actSetProfile]
  repeat' split
  case h_2 => exact s.modRoute_keepsAccounts rfl rfl
  all_goals exact s.keepsAccounts_refl

theorem actSetDisposition_keepsAccounts (s : State) (link : Link) (b : SetDispositionBody) :
    s.keepsAccounts (actSetDisposition link b s).1 := by
  simp only [actSetDisposition]
  repeat' split
  case h_1.isFalse => exact s.modRoute_keepsAccounts rfl rfl
  all_goals exact s.keepsAccounts_refl

theorem State.setParams_keepsAccounts (s : State) (q : Params) : s.keepsAccounts (s.setParams q) := by
  have hset : s.keepsAccounts (s.modRoute fun r => { r with params := q }) := s.modRoute_keepsAccounts rfl rfl
  unfold State.setParams
  dsimp only
  split
  · exact (hset.thenSame (by simp) (by simp)).refillScan
  · exact hset.refillScan

theorem actSetRouteParams_keepsAccounts (s : State) (link : Link) (b : SetRouteParamsBody) :
    s.keepsAccounts (actSetRouteParams link b s).1 := by
  simp only [actSetRouteParams]
  repeat' split
  case h_2 => exact s.setParams_keepsAccounts _
  all_goals exact s.keepsAccounts_refl

theorem actOpenSegment_keepsAccounts (s : State) (n : Byte) : s.keepsAccounts (actOpenSegment n s).1 := by
  simp only [actOpenSegment]
  split
  · exact s.keepsAccounts_refl
  · rename_i ha
    split
    · exact s.keepsAccounts_refl
    · rename_i g hg
      split
      · exact s.modSegment_keepsAccounts _ fun _ => ⟨rfl, rfl, rfl⟩
      · rename_i hn
        split
        · exact s.keepsAccounts_refl
        · rename_i hl
          exact State.openSegment_keepsAccounts (not_not.1 ha) hg hn (not_le.1 hl)

theorem actCloseSegment_keepsAccounts (s : State) (n : Byte) : s.keepsAccounts (actCloseSegment n s).1 := by
  simp only [actCloseSegment]
  repeat' split
  case h_2.isFalse => exact s.closeRule_keepsAccounts _ _
  all_goals exact s.keepsAccounts_refl

theorem actSkipStop_keepsAccounts (s : State) (i : Word16) : s.keepsAccounts (actSkipStop i s).1 := by
  simp only [actSkipStop]
  split
  · exact s.keepsAccounts_refl
  · split
    · exact s.keepsAccounts_refl
    · rename_i p _
      split
      case h_6 | h_7 => exact s.skipStop_keepsAccounts _ p
      all_goals exact s.keepsAccounts_refl

theorem actUnskipStop_keepsAccounts (s : State) (i : Word16) : s.keepsAccounts (actUnskipStop i s).1 := by
  simp only [actUnskipStop]
  split
  · exact s.keepsAccounts_refl
  · split
    · exact s.keepsAccounts_refl
    · split
      · exact s.keepsAccounts_refl
      · exact s.unskipStop_keepsAccounts _ _

theorem actPollCancel_keepsAccounts (s : State) (i : Word16) : s.keepsAccounts (actPollCancel i s).1 := by
  have hmark (k n : Nat) : s.keepsAccounts (s.modStop k fun q => { q with attempts := n }) :=
    s.modStop_keepsAccounts k fun _ => ⟨rfl, rfl⟩
  simp only [actPollCancel]
  split
  · exact s.keepsAccounts_refl
  · split
    · exact s.keepsAccounts_refl
    · split
      · exact s.keepsAccounts_refl
      · dsimp only
        split
        · exact (hmark _ _).thenSame rfl rfl
        · exact (hmark _ _).removePolls _

theorem act_keepsAccounts (s : State) (link : Link) (c : Command) : s.keepsAccounts (act link s c).1 := by
  cases c with
  | loadBegin b => exact actLoadBegin_keepsAccounts s link b
  | loadStops first records => exact actLoadStops_keepsAccounts s link first records
  | loadSegment b => exact actLoadSegment_keepsAccounts s link b
  | loadEnd => exact actLoadEnd_keepsAccounts s link
  | loadAbort => exact actLoadAbort_keepsAccounts s link
  | retireRoute => exact actRetireRoute_keepsAccounts s
  | clearRoute => exact actClearRoute_keepsAccounts s
  | setProfile b => exact actSetProfile_keepsAccounts s link b
  | setDisposition b => exact actSetDisposition_keepsAccounts s link b
  | setRouteParams b => exact actSetRouteParams_keepsAccounts s link b
  | openSegment n => exact actOpenSegment_keepsAccounts s n
  | closeSegment n => exact actCloseSegment_keepsAccounts s n
  | skipStop i => exact actSkipStop_keepsAccounts s i
  | unskipStop i => exact actUnskipStop_keepsAccounts s i
  | pollCancel i => exact actPollCancel_keepsAccounts s i
  | dockReset => exact s.enterDown_keepsAccounts _
  | _ =>
    exact State.keepsAccounts_of_eq (by simp [act, actAckNotice, actSetNoticeMask, notices_frame])
      (by simp [act, actAckNotice, actSetNoticeMask, notices_frame])

theorem State.answer_keepsAccounts (s : State) (link : Link) (x : Held) : s.keepsAccounts (s.answer link x).1 := by
  unfold State.answer
  split
  · exact s.keepsAccounts_refl
  · exact act_keepsAccounts s .van _
  · split
    · exact act_keepsAccounts s .dock _
    · exact s.keepsAccounts_refl

theorem State.noteReset_keepsAccounts (s : State) (x : Held) : s.keepsAccounts (s.noteReset x) := by
  unfold State.noteReset
  split <;> exact State.keepsAccounts_of_eq rfl rfl

theorem State.takeHead_keepsAccounts (s : State) : s.keepsAccounts s.takeHead := by
  obtain he | ⟨x, rest, -, he⟩ := s.takeHead_cases
  · rw [he]
    exact s.keepsAccounts_refl
  · have htaken : s.keepsAccounts
        ((s.modVan fun v => { v with hold := rest }).countVan fun k => { k with taken := k.taken + 1 }) :=
      State.keepsAccounts_of_eq rfl rfl
    rw [he]
    exact ((htaken.trans (State.answer_keepsAccounts _ .van x)).trans (State.noteReset_keepsAccounts _ x)).thenSame rfl rfl

theorem State.vanHold_keepsAccounts (s : State) (x : Held) : s.keepsAccounts (s.vanHold x) := by
  unfold State.vanHold
  split
  · exact State.keepsAccounts.trans (t := s.modVan fun v => { v with hold := v.hold ++ [x] })
      (State.keepsAccounts_of_eq rfl rfl) (State.takeHead_keepsAccounts _)
  · exact State.keepsAccounts_of_eq rfl rfl

theorem State.takeHeld_keepsAccounts (s : State) : s.keepsAccounts s.takeHeld := by
  obtain he | ⟨x, rest, -, he⟩ := s.takeHeld_cases
  · rw [he]
    exact s.keepsAccounts_refl
  · have hleft : s.keepsAccounts (s.modDock fun d => { d with held := rest }) := State.keepsAccounts_of_eq rfl rfl
    rw [he]
    exact (hleft.trans (State.answer_keepsAccounts _ .dock x)).thenSame rfl rfl

theorem State.dockHold_keepsAccounts (s : State) (x : Held) : s.keepsAccounts (s.dockHold x) := by
  have hheld : s.keepsAccounts (if s.dock.held.length < Config.holdCapacity then
      (s.modDock fun d => { d with held := d.held ++ [x] }).takeHeld else s.discardDock) := by
    split
    · exact State.keepsAccounts.trans (t := s.modDock fun d => { d with held := d.held ++ [x] })
        (State.keepsAccounts_of_eq rfl rfl) (State.takeHeld_keepsAccounts _)
    · exact State.keepsAccounts_of_eq rfl rfl
  unfold State.dockHold
  cases s.dock.link with
  | down | align | fault => exact s.keepsAccounts_refl
  | exchange => exact State.keepsAccounts_of_eq rfl rfl
  | ready | uploading => exact hheld

theorem linkCommand_keepsAccounts {link : Link} {tag : Byte} {c : Command} (ht : linkCommand link tag c s = .next t) :
    s.keepsAccounts t := by
  refine whenRunning_keepsAccounts ?_ ht
  cases link with
  | van => exact s.vanHold_keepsAccounts _
  | dock => exact s.dockHold_keepsAccounts _

/-! ## Messages that arrive as bytes -/

theorem State.vanReceived_keepsAccounts (s : State) (x : Received) : s.keepsAccounts (s.vanReceived x) := by
  cases x with
  | message m =>
    simp only [State.vanReceived, State.vanMessage]
    split
    · exact s.vanHold_keepsAccounts _
    · exact State.keepsAccounts_of_eq rfl rfl
  | badLength => exact State.keepsAccounts_of_eq rfl rfl
  | badCrc => exact State.keepsAccounts_of_eq rfl rfl

theorem State.vanBytes_keepsAccounts (s : State) (bytes : List Byte) : s.keepsAccounts (s.vanBytes bytes) :=
  State.keepsAccounts.trans (t := s.modVan fun v => { v with rx := v.rx.taken bytes _ }) (State.keepsAccounts_of_eq rfl rfl)
    (foldl_keepsAccounts (fun s x => (State.vanReceived_keepsAccounts s x).announceDue) _ _)

theorem State.dockMessage_keepsAccounts (s : State) (m : Message) : s.keepsAccounts (s.dockMessage m) := by
  unfold State.dockMessage
  split
  · exact s.dockHold_keepsAccounts _
  · split
    · exact s.dockArrive_keepsAccounts _
    · exact State.keepsAccounts_of_eq rfl rfl

theorem State.dockReceived_keepsAccounts (s : State) (x : Received) : s.keepsAccounts (s.dockReceived x) := by
  unfold State.dockReceived
  split
  case h_4 => exact s.dockMessage_keepsAccounts _
  all_goals exact State.keepsAccounts_of_eq rfl rfl

theorem State.dockBytes_keepsAccounts (s : State) (bytes : List Byte) : s.keepsAccounts (s.dockBytes bytes) :=
  State.keepsAccounts.trans
    (t := s.modDock fun d => { d with rx := (receive ((s.dock.rx ++ bytes).length + 1) (s.dock.rx ++ bytes)).2 })
    (State.keepsAccounts_of_eq rfl rfl)
    (foldl_keepsAccounts (fun s x => (State.dockReceived_keepsAccounts s x).announceDue) _ _)

/-! ## Supply and start-up -/

/-- A reset takes the dwell times, and nothing that the accounts read (R63). -/
theorem State.loseVolatile_keepsAccounts (s : State) : s.keepsAccounts s.loseVolatile :=
  State.keepsAccounts_of_read
    (by simp [State.loseVolatile, Route.retained, Route.tally, Function.comp_def])
    (by simp [State.loseVolatile, Route.retained, State.openings, Function.comp_def])

theorem State.stopActivity_keepsAccounts (s : State) (m : MonitorState) (k : ResetKind) :
    s.keepsAccounts (s.stopActivity m k) :=
  s.loseVolatile_keepsAccounts.thenSame rfl rfl

/-- A cold start empties the route book (R195). -/
theorem State.coldStart_keepsAccounts (s : State) : s.keepsAccounts s.coldStart :=
  State.keepsAccounts_of_empty nofun nofun nofun rfl

theorem State.keepsAccounts.noteStep (h : s.keepsAccounts t) (k : StartStep) (f : StartProgress → StartProgress) :
    s.keepsAccounts (t.noteStep k f) :=
  h.thenSame rfl rfl

theorem State.startStep_keepsAccounts (s : State) (k : StartStep) : s.keepsAccounts (s.startStep k) := by
  cases k with
  | marker =>
    refine State.keepsAccounts.noteStep ?_ _ _
    split
    · exact s.loseVolatile_keepsAccounts
    · exact s.loseVolatile_keepsAccounts.trans (State.coldStart_keepsAccounts _)
  | load =>
    refine State.keepsAccounts.noteStep ?_ _ _
    split
    · exact s.abandonRoute_keepsAccounts
    · exact s.abandonRoute_keepsAccounts
    all_goals exact s.keepsAccounts_refl
  | index =>
    refine State.keepsAccounts.noteStep ?_ _ _
    split
    · exact s.modRoute_keepsAccounts rfl rfl
    · exact s.keepsAccounts_refl
  | stops => exact (foldl_keepsAccounts State.returnStop_keepsAccounts _ _).noteStep _ _
  | records => exact State.keepsAccounts_of_eq rfl rfl
  | dwell =>
    refine State.keepsAccounts.noteStep (s.modRoute_keepsAccounts ?_ ?_) _ _
    · simp only [Route.tally, List.map_map]
      congr 2
      exact List.map_congr_left fun g _ => by simp only [Function.comp]; split <;> rfl
    · rw [List.map_map]
      exact List.map_congr_left fun g _ => by simp only [Function.comp]; split <;> rfl
  | hello =>
    refine State.keepsAccounts_of_eq ?_ ?_ <;> simp only [State.startStep, State.startHello, State.beginDock] <;>
      split <;> simp

theorem execSupplyDip_keepsAccounts (ht : execSupplyDip s = .next t) : s.keepsAccounts t := by
  have hdip : s.keepsAccounts (s.modSupply fun p => { p with vddGood := false, goodCount := none }) :=
    State.keepsAccounts_of_eq rfl rfl
  unfold execSupplyDip at ht
  dsimp only at ht
  split at ht <;> rw [Host.Outcome.next.injEq] at ht <;> subst ht
  · exact (hdip.trans (State.stopActivity_keepsAccounts _ .dip .dip)).thenSame rfl rfl
  · exact (hdip.trans (State.stopActivity_keepsAccounts _ .dip .dip)).thenSame rfl rfl
  all_goals exact hdip.thenSame rfl rfl

theorem execResetNAssert_keepsAccounts (ht : execResetNAssert s = .next t) : s.keepsAccounts t := by
  have hpin : s.keepsAccounts (s.modSupply fun p => { p with resetAsserted := true }) := State.keepsAccounts_of_eq rfl rfl
  unfold execResetNAssert at ht
  dsimp only at ht
  split at ht <;> rw [Host.Outcome.next.injEq] at ht <;> subst ht
  · exact hpin.trans (State.stopActivity_keepsAccounts _ _ _)
  · exact hpin.trans (State.stopActivity_keepsAccounts _ _ _)
  all_goals exact hpin

theorem execStartUp_keepsAccounts {upTo : StartStep} (ht : execStartUp s upTo = .next t) : s.keepsAccounts t := by
  unfold execStartUp at ht
  split at ht <;> simp only [State.finish, Host.Outcome.next.injEq] at ht <;> subst ht
  · exact (foldl_keepsAccounts State.startStep_keepsAccounts _ _).announceDue
  all_goals exact s.keepsAccounts_refl

theorem execOutboundSent_keepsAccounts (ht : execOutboundSent s = .next t) : s.keepsAccounts t := by
  have hdrop : s.keepsAccounts s.dropHead := State.keepsAccounts_of_eq rfl rfl
  unfold execOutboundSent at ht
  repeat' split at ht
  all_goals simp only [State.finish, Host.Outcome.next.injEq] at ht; subst ht
  case h_5.isFalse.isTrue => exact s.stopActivity_keepsAccounts _ _
  case h_5.isFalse.isFalse => exact (hdrop.announceDue.trans (State.takeHead_keepsAccounts _)).announceDue
  all_goals exact s.keepsAccounts_refl

/-! ## The other rows -/

theorem execCaptureFrame_keepsAccounts {ch : ChannelNo} (ht : execCaptureFrame ch s = .next t) : s.keepsAccounts t := by
  refine whenRunning_keepsAccounts ?_ ht
  split
  · exact s.keepsAccounts_refl
  · rename_i f _
    have htaken : s.keepsAccounts (s.modCapture fun c => { c with handedOn := c.handedOn.eraseP (·.channel == ch) }) :=
      State.keepsAccounts_of_eq rfl rfl
    dsimp only
    split
    · exact (htaken.thenSame (by simp) (by simp)).trans (State.classify_keepsAccounts (State.satisfyPoll _) f _)
    · exact htaken.trans (State.classify_keepsAccounts _ f _)

theorem execCheckCompletion_keepsAccounts (ht : execCheckCompletion s = .next t) : s.keepsAccounts t := by
  refine whenRunning_keepsAccounts ?_ ht
  split
  · exact s.completeCheck_keepsAccounts _
  · exact s.keepsAccounts_refl

theorem execIndexBuildComplete_keepsAccounts (ht : execIndexBuildComplete s = .next t) : s.keepsAccounts t := by
  refine whenRunning_keepsAccounts ?_ ht
  split
  · rename_i ha
    exact State.activateRoute_keepsAccounts ha
  · exact s.keepsAccounts_refl

theorem execDwellTimerExpiry_keepsAccounts {n : Nat} (ht : execDwellTimerExpiry n s = .next t) : s.keepsAccounts t := by
  refine whenRunning_keepsAccounts ?_ ht
  split
  · split
    · exact s.dwellExpiry_keepsAccounts _ _
    · exact s.keepsAccounts_refl
  · exact s.keepsAccounts_refl

theorem execListenWindowExpiry_keepsAccounts (ht : execListenWindowExpiry s = .next t) : s.keepsAccounts t := by
  refine whenRunning_keepsAccounts ?_ ht
  split
  · split
    · exact s.expirePoll_keepsAccounts _ _
    · exact s.keepsAccounts_refl
  all_goals exact s.keepsAccounts_refl

theorem execSymbolError_keepsAccounts (ht : execSymbolError s = .next t) : s.keepsAccounts t := by
  refine whenRunning_keepsAccounts ?_ ht
  split
  · dsimp only
    generalize hu : State.abandonMessage _ = u
    have hcount : s.keepsAccounts u := by
      subst hu
      unfold State.abandonMessage
      split <;> exact State.keepsAccounts_of_eq (by simp) (by simp)
    split
    · unfold State.thresholdReached
      split
      · exact hcount.trans (u.exchangeFailure_keepsAccounts _)
      · exact hcount.trans (u.enterAlign_keepsAccounts _)
      · exact hcount.trans (u.enterAlign_keepsAccounts _)
      all_goals exact hcount
    · exact hcount
  · exact s.keepsAccounts_refl

theorem execDockSendDone_keepsAccounts (ht : execDockSendDone s = .next t) : s.keepsAccounts t := by
  have hdone : s.keepsAccounts (s.modDock fun d => { d with sending := none }) := State.keepsAccounts_of_eq rfl rfl
  refine whenRunning_keepsAccounts ?_ ht
  split
  · exact s.keepsAccounts_refl
  · exact ((hdone.trans (State.sendEnded_keepsAccounts _ _)).thenSame (u := State.modDock _ Dock.sendNext) rfl rfl).trans
      (State.takeHeld_keepsAccounts _)

theorem execAckTimerExpiry_keepsAccounts (ht : execAckTimerExpiry s = .next t) : s.keepsAccounts t := by
  refine whenRunning_keepsAccounts ?_ ht
  split
  · split
    · split
      · exact State.keepsAccounts_of_eq (by simp [State.resendBlock]) (by simp [State.resendBlock])
      · exact s.enterAlign_keepsAccounts _
    · exact s.keepsAccounts_refl
  · exact s.keepsAccounts_refl

/-- The events that reach neither the route book nor the tracker. -/
def sparesBook : Instr → Bool
  | .syncDetection .. | .headerComplete .. | .blockComplete .. | .carrierLoss _ | .carrierPresent _ | .streamStopped _
  | .muteHoldExpiry _ | .holdTimerExpiry _ | .gatherLimitExpiry _ | .checkStart | .pollTake | .guardComplete
  | .clearWaitExpiry | .burstEnd | .dockSignalPresent | .dockSignalAbsent | .aligned | .dockErrorWindowEnd
  | .resendDelayExpiry | .dockMessageAbandoned | .ppsPulse | .pulseWatchExpiry | .secondStep | .vanByteGapTimeout
  | .byteWithoutStopBit | .attnPulseEnd | .attnLowGapEnd | .powerLost | .vddGood | .vddGoodLevelCrossing _ | .vbakLow _
  | .resetNRelease => true
  | _ => false

theorem spared_book {i : Instr} (hi : sparesBook i = true) (ht : exec i s = .next t) :
    t.route = s.route ∧ t.tracker = s.tracker := by
  have take {act : State → State} {v : State} (hv : v.route = s.route ∧ v.tracker = s.tracker)
      (ha : (act v).route = v.route ∧ (act v).tracker = v.tracker) (hw : whenRunning v act = .next t) :
      t.route = s.route ∧ t.tracker = s.tracker := by
    rw [whenRunning_next, Host.Outcome.next.injEq] at hw
    subst hw
    split
    · simp [ha, hv]
    · exact hv
  cases i with
  | syncDetection ch symbols =>
    refine take ⟨rfl, rfl⟩ ?_ (show execSyncDetection ch s symbols = _ from ht)
    have hsymbol (s : State) (x : Nibble) :
        (State.takeSymbol ch s x).route = s.route ∧ (State.takeSymbol ch s x).tracker = s.tracker := by
      unfold State.takeSymbol
      dsimp only
      repeat' split
      all_goals simp
    exact ⟨foldl_keeps (fun s : State => s.route) _ (fun s x => (hsymbol s x).1) _ _,
      foldl_keeps (fun s : State => s.tracker) _ (fun s x => (hsymbol s x).2) _ _⟩
  | headerComplete ch a b =>
    refine take ⟨rfl, rfl⟩ ?_ (show execHeaderComplete ch a b s = _ from ht)
    dsimp only
    repeat' split
    all_goals simp
  | blockComplete ch fec body crc levels =>
    refine take ⟨rfl, rfl⟩ ?_ (show execBlockComplete ch fec body crc levels s = _ from ht)
    dsimp only
    repeat' split
    all_goals simp
  | carrierLoss ch =>
    refine take (v := s.setCarrier ch false) (by simp) ?_ (show execCarrierLoss ch s = _ from ht)
    dsimp only
    split <;> simp
  | carrierPresent ch => exact take (v := s.setCarrier ch true) (by simp) (by simp) (show execCarrierPresent ch s = _ from ht)
  | streamStopped ch =>
    refine take ⟨rfl, rfl⟩ ?_ (show execStreamStopped ch s = _ from ht)
    dsimp only
    repeat' split
    all_goals simp
  | muteHoldExpiry ch =>
    refine take ⟨rfl, rfl⟩ ?_ (show execMuteHoldExpiry ch s = _ from ht)
    split <;> simp
  | holdTimerExpiry n => exact take ⟨rfl, rfl⟩ (by simp) (show execHoldTimerExpiry n s = _ from ht)
  | gatherLimitExpiry n => exact take ⟨rfl, rfl⟩ (by simp) (show execGatherLimitExpiry n s = _ from ht)
  | checkStart =>
    refine take ⟨rfl, rfl⟩ ?_ (show execCheckStart s = _ from ht)
    split <;> simp
  | pollTake =>
    refine take ⟨rfl, rfl⟩ ?_ (show execPollTake s = _ from ht)
    split <;> simp
  | guardComplete =>
    refine take ⟨rfl, rfl⟩ ?_ (show execGuardComplete s = _ from ht)
    repeat' split
    all_goals simp
  | clearWaitExpiry =>
    refine take ⟨rfl, rfl⟩ ?_ (show execClearWaitExpiry s = _ from ht)
    repeat' split
    all_goals simp
  | burstEnd =>
    refine take ⟨rfl, rfl⟩ ?_ (show execBurstEnd s = _ from ht)
    repeat' split
    all_goals simp
  | dockSignalPresent =>
    exact take (v := s.setSignal true) ⟨rfl, rfl⟩ (by simp) (show execDockSignalPresent s = _ from ht)
  | dockSignalAbsent =>
    exact take (v := s.setSignal false) ⟨rfl, rfl⟩ (by simp) (show execDockSignalAbsent s = _ from ht)
  | aligned =>
    refine take ⟨rfl, rfl⟩ ?_ (show execAligned s = _ from ht)
    split <;> simp
  | dockErrorWindowEnd =>
    refine take ⟨rfl, rfl⟩ ?_ (show execDockErrorWindowEnd s = _ from ht)
    split <;> simp
  | resendDelayExpiry =>
    refine take ⟨rfl, rfl⟩ ?_ (show execResendDelayExpiry s = _ from ht)
    split <;> simp
  | dockMessageAbandoned =>
    refine take ⟨rfl, rfl⟩ ?_ (show execDockMessageAbandoned s = _ from ht)
    unfold State.abandonMessage
    split <;> simp
  | ppsPulse =>
    refine take ⟨rfl, rfl⟩ ?_ (show execPpsPulse s = _ from ht)
    dsimp only
    split <;> simp
  | pulseWatchExpiry =>
    refine take ⟨rfl, rfl⟩ ?_ (show execPulseWatchExpiry s = _ from ht)
    dsimp only
    repeat' split
    all_goals simp
  | secondStep =>
    refine take ⟨rfl, rfl⟩ ?_ (show execSecondStep s = _ from ht)
    split <;> simp
  | vanByteGapTimeout =>
    refine take ⟨rfl, rfl⟩ ?_ (show execVanByteGapTimeout s = _ from ht)
    split <;> exact ⟨rfl, rfl⟩
  | byteWithoutStopBit => exact take ⟨rfl, rfl⟩ ⟨rfl, rfl⟩ (show execByteWithoutStopBit s = _ from ht)
  | attnPulseEnd =>
    refine take ⟨rfl, rfl⟩ ?_ (show execAttnPulseEnd s = _ from ht)
    split <;> exact ⟨rfl, rfl⟩
  | attnLowGapEnd =>
    refine take ⟨rfl, rfl⟩ ?_ (show execAttnLowGapEnd s = _ from ht)
    split <;> exact ⟨rfl, rfl⟩
  | powerLost =>
    replace ht : execPowerLost s = .next t := ht
    unfold execPowerLost at ht
    split at ht <;> cases ht <;> exact ⟨rfl, rfl⟩
  | vddGood =>
    replace ht : execVddGood s = .next t := ht
    unfold execVddGood at ht
    repeat' split at ht
    all_goals cases ht; exact ⟨rfl, rfl⟩
  | vddGoodLevelCrossing b =>
    replace ht : execVddGoodLevelCrossing b s = .next t := ht
    unfold execVddGoodLevelCrossing at ht
    dsimp only at ht
    split at ht <;> cases ht <;> exact ⟨rfl, rfl⟩
  | vbakLow b =>
    replace ht : execVbakLow s b = .next t := ht
    cases ht
    exact ⟨rfl, rfl⟩
  | resetNRelease =>
    replace ht : execResetNRelease s = .next t := ht
    unfold execResetNRelease at ht
    dsimp only at ht
    split at ht <;> cases ht <;> exact ⟨rfl, rfl⟩
  | _ => nomatch hi

/-! ## Every row and every millisecond -/

theorem commandRow_keepsAccounts {i : Instr} {link : Link} {tag : Byte} {c : Command}
    (hi : rowCommand i = some (link, tag, c)) (ht : exec i s = .next t) : s.keepsAccounts t :=
  linkCommand_keepsAccounts ((exec_rowCommand hi s).symm.trans ht)

theorem execDockSignalLoss_keepsAccounts (ht : execDockSignalLoss s = .next t) : s.keepsAccounts t := by
  refine whenRunning_keepsAccounts ?_ ht
  split
  · exact s.enterDown_keepsAccounts _
  · exact s.keepsAccounts_refl

theorem execPageTimeout_keepsAccounts (ht : execPageTimeout s = .next t) : s.keepsAccounts t := by
  refine whenRunning_keepsAccounts ?_ ht
  split
  · exact s.exchangeFailure_keepsAccounts _
  · exact s.keepsAccounts_refl

theorem dockArrival_keepsAccounts {a : DockArrival} (ht : (whenRunning s fun s => s.dockArrive a) = .next t) :
    s.keepsAccounts t :=
  whenRunning_keepsAccounts (s.dockArrive_keepsAccounts a) ht

theorem execDockMessageArrival_keepsAccounts {bytes : List Byte} (ht : execDockMessageArrival bytes s = .next t) :
    s.keepsAccounts t := by
  refine whenRunning_keepsAccounts ?_ ht
  cases s.dock.link with
  | down | align | fault => exact s.keepsAccounts_refl
  | exchange | ready | uploading => exact s.dockBytes_keepsAccounts bytes

theorem vanArrival_keepsAccounts {bytes : List Byte} (ht : (whenRunning s fun s => s.vanBytes bytes) = .next t) :
    s.keepsAccounts t :=
  whenRunning_keepsAccounts (s.vanBytes_keepsAccounts bytes) ht

theorem exec_keepsAccounts (i : Instr) (ht : exec i s = .next t) : s.keepsAccounts t := by
  cases i with
  | loadBegin | loadStops | loadSegment | loadEnd | loadAbort | setProfile | setRouteParams | setDisposition
  | setChannel | readForeign | retireRoute | clearRoute | readStop | openSegment | closeSegment | skipStop | unskipStop
  | readRevisit | readSegment | readRecords | pollStop | pollCancel | txInhibit | txEnable | dockReset | setDock | setClock
  | clockSource | readStatus | readCounters | clearCounters | ackNotice | setNoticeMask | setAttnMode | resetPart =>
    exact commandRow_keepsAccounts rfl ht
  | captureFrame ch => exact execCaptureFrame_keepsAccounts (ch := ch) ht
  | checkCompletion => exact execCheckCompletion_keepsAccounts ht
  | indexBuildComplete => exact execIndexBuildComplete_keepsAccounts ht
  | dwellTimerExpiry n => exact execDwellTimerExpiry_keepsAccounts (n := n) ht
  | listenWindowExpiry => exact execListenWindowExpiry_keepsAccounts ht
  | dockSignalLoss => exact execDockSignalLoss_keepsAccounts ht
  | symbolError => exact execSymbolError_keepsAccounts ht
  | abilityPage p => exact dockArrival_keepsAccounts (a := .ability p) ht
  | depotPage p => exact dockArrival_keepsAccounts (a := .depot p) ht
  | pageTimeout => exact execPageTimeout_keepsAccounts ht
  | dockSendDone => exact execDockSendDone_keepsAccounts ht
  | blockAck n => exact dockArrival_keepsAccounts (a := .ack n) ht
  | blockNak n r => exact dockArrival_keepsAccounts (a := .nak n r) ht
  | ackTimerExpiry => exact execAckTimerExpiry_keepsAccounts ht
  | dockMessageArrival bytes => exact execDockMessageArrival_keepsAccounts (bytes := bytes) ht
  | vanMessageArrival bytes => exact vanArrival_keepsAccounts (bytes := bytes) ht
  | vanMessageDiscard bytes => exact vanArrival_keepsAccounts (bytes := bytes) ht
  | outboundSent => exact execOutboundSent_keepsAccounts ht
  | supplyDip => exact execSupplyDip_keepsAccounts ht
  | resetNAssert => exact execResetNAssert_keepsAccounts ht
  | startUp upTo => exact execStartUp_keepsAccounts (upTo := upTo) ht
  | _ =>
    obtain ⟨hr, hk⟩ := spared_book rfl ht
    exact State.keepsAccounts_of_eq hr hk

theorem State.after_keepsAccounts (s : State) (i : Instr) : s.keepsAccounts (s.after i) := by
  unfold State.after
  cases he : exec i s with
  | next t => exact exec_keepsAccounts i he
  | fault => exact s.keepsAccounts_refl
  | refused => exact s.keepsAccounts_refl

/-- A millisecond counts dwell times, and nothing that the accounts read (R55, R170). -/
theorem Route.tick_read (r : Route) : r.tick.tally = r.tally ∧ r.tick.segments.map (·.state) = r.segments.map (·.state) := by
  have hseg (g : Segment) : (g.tick.stopCount, g.tick.counts) = (g.stopCount, g.counts) ∧ g.tick.state = g.state := by
    unfold Segment.tick
    split <;> exact ⟨rfl, rfl⟩
  unfold Route.tick
  split
  · simp only [Route.tally, List.map_map, Function.comp_def, fun g => (hseg g).1, fun g => (hseg g).2, and_self]
  · exact ⟨rfl, rfl⟩

theorem State.count_keepsAccounts (s : State) : s.keepsAccounts s.count := by
  obtain ⟨htally, hstates⟩ := s.route.tick_read
  have htick : s.keepsAccounts (s.modRoute Route.tick) := s.modRoute_keepsAccounts htally hstates
  unfold State.count
  split
  · exact htick.thenSame rfl rfl
  · exact State.keepsAccounts_of_eq rfl rfl
  · exact State.keepsAccounts_of_eq rfl rfl
  · unfold State.tickStart
    split
    · exact htick
    · exact s.keepsAccounts_refl
  · exact s.keepsAccounts_refl

/-- Settles O7: every row and every millisecond keeps both accounts, each operation on stops and segments by its own lemma. -/
theorem segmentAccountsAreKept : Obligations.SegmentAccountsAreKept := by
  intro s t ht
  unfold step at ht
  split at ht
  · rw [Host.Outcome.next.injEq] at ht
    subst ht
    exact (foldl_keepsAccounts State.after_keepsAccounts _ s).trans (State.count_keepsAccounts _)
  · rename_i c rest _
    exact State.keepsAccounts.trans (t := s.withPending rest) (State.keepsAccounts_of_eq rfl rfl) (exec_keepsAccounts c ht)

end AccountRows
end Sys2Proof.Machine

namespace Sys2Proof.Machine

section Raising

/-! ## What has occurred and been announced, one occurrence after another -/

variable {s t u : State}

theorem State.onlyNotices_of_van (h : t.van = s.van) : s.onlyNotices t :=
  ⟨⟨[], by simp [h], nofun, by rw [h]; exact s.van.pulsed_zero⟩, ⟨by rw [h], by rw [h], by rw [h], by rw [h]⟩,
    by rw [h]⟩

theorem State.onlyNotices.trans (h1 : s.onlyNotices t) (h2 : t.onlyNotices u) : s.onlyNotices u := by
  obtain ⟨⟨n1, e1, k1, p1⟩, ⟨a1, a2, a3, a4⟩, c1⟩ := h1
  obtain ⟨⟨n2, e2, k2, p2⟩, ⟨b1, b2, b3, b4⟩, c2⟩ := h2
  refine ⟨⟨n1 ++ n2, by rw [e2, e1, List.append_assoc], fun m hm => (List.mem_append.1 hm).elim (k1 m) (k2 m), ?_⟩,
    ⟨b1.trans a1, b2.trans a2, b3.trans a3, b4.trans a4⟩, c2.trans c1⟩
  rw [List.length_append]
  exact Van.pulsed_add a4 p1 p2

theorem State.onlyNotices_occur (s : State) (c : Cause) (d : List Byte) : s.onlyNotices (s.occur c d) :=
  ⟨⟨[], by simp, nofun, Van.pulsed_zero_of rfl rfl⟩, ⟨rfl, rfl, rfl, rfl⟩, rfl⟩

theorem State.onlyNotices_announceList (s : State) (l : List Cause) : s.onlyNotices (s.announceList l) := by
  obtain ⟨hout, hhold, hrx, hreset, hmode, hcounters⟩ := State.announceList_van l s
  exact ⟨hout, ⟨hrx, hhold, hreset, hmode⟩, hcounters⟩

/-- What has occurred reads the notice state alone. -/
theorem State.raised.congr {l : List (Cause × List Byte)} (h : s.raised t l) (hv : u.van.notices = t.van.notices) :
    s.raised u l := by
  intro c
  rw [show u.notice c = t.notice c by simp only [State.notice, hv]]
  exact h c

/-- One more occurrence, of a cause that has not occurred yet, at any place of the list. -/
theorem State.raised.occur {l₁ l₂ : List (Cause × List Byte)} {c : Cause} (h : s.raised t (l₁ ++ l₂)) (d : List Byte)
    (hc : (l₁ ++ l₂).lookup c = none) : s.raised (t.occur c d) (l₁ ++ (c, d) :: l₂) := by
  intro e
  have he := h e
  rw [List.lookup_append, Option.or_eq_none_iff] at hc
  obtain ⟨hc₁, hc₂⟩ := hc
  by_cases hce : e = c
  · subst hce
    simp only [List.lookup_append, hc₁, hc₂, Option.or_none, List.lookup_cons, beq_self_eq_true, Option.none_or] at he ⊢
    obtain ⟨hmask, hpending, hcount, hdetail⟩ := he
    rw [State.occur_notice, hpending, hcount]
    cases hp : (s.notice e).pending <;> simp [hmask, hpending, hdetail, hp]
  · have hne : (e == c) = false := by simpa using hce
    rw [State.occur_notice_ne t hce]
    simpa only [List.lookup_append, List.lookup_cons, hne] using he

/-- An occurrence that a condition calls for. -/
theorem State.raised.occurIf {l₁ l₂ : List (Cause × List Byte)} {c : Cause} (h : s.raised t (l₁ ++ l₂)) (b : Prop)
    [Decidable b] (d : List Byte) (hc : (l₁ ++ l₂).lookup c = none) :
    s.raised (if b then t.occur c d else t) (l₁ ++ (if b then [(c, d)] else []) ++ l₂) := by
  split
  · simpa using h.occur d hc
  · simpa using h

end Raising

section Scanning

/-! ## The refill scan reads route book, tracker and transmitter alone (R127) -/

variable {s t : State}

theorem State.candidate_congr (hr : t.route = s.route) (hx : t.tx = s.tx) (i : Nat) : t.candidate i = s.candidate i := by
  simp only [State.candidate, State.segmentState, hr, hx]

theorem State.scanStop_tx (s : State) (i : Nat) : (s.scanStop i).tx =
    if s.tx.queue.length < Config.pollCapacity ∧ s.candidate i = true then
      { s.tx with queue := s.tx.queue ++
          [s.pollEntry i (if (s.route.stops[i]?).any (·.status == .recheck) then .recheck else .opened)] }
    else s.tx := by
  unfold State.scanStop
  split <;> rfl

theorem State.scanStop_tx_congr (hr : t.route = s.route) (hx : t.tx = s.tx) (i : Nat) :
    (t.scanStop i).tx = (s.scanStop i).tx := by
  simp only [State.scanStop_tx, State.candidate_congr hr hx, State.pollEntry, hr, hx]

theorem foldl_scanStop_tx_congr : ∀ (l : List Nat) {s t : State}, t.route = s.route → t.tx = s.tx →
    (l.foldl State.scanStop t).tx = (l.foldl State.scanStop s).tx
  | [], _, _, _, hx => hx
  | i :: l, s, t, hr, hx => foldl_scanStop_tx_congr l (by simp [hr]) (State.scanStop_tx_congr hr hx i)

theorem State.refillScan_tx_congr (hr : t.route = s.route) (hk : t.tracker = s.tracker) (hx : t.tx = s.tx) :
    t.refillScan.tx = s.refillScan.tx := by
  have horder : t.scanOrder = s.scanOrder := by simp only [State.scanOrder, hr, hk]
  unfold State.refillScan
  rw [horder]
  exact foldl_scanStop_tx_congr _ hr hx

/-- A refill scan appends to the poll queue (R127). -/
theorem State.mem_refillScan_queue {q : PollEntry} (h : q ∈ s.tx.queue) : q ∈ s.refillScan.tx.queue := by
  have hfold : ∀ (l : List Nat) {s : State}, q ∈ s.tx.queue → q ∈ (l.foldl State.scanStop s).tx.queue := by
    intro l
    induction l with
    | nil => exact id
    | cons i l ih =>
      intro s hq
      refine ih ?_
      rw [State.scanStop_tx]
      split
      · exact List.mem_append_left _ hq
      · exact hq
  exact hfold _ h

end Scanning

section Returning

/-! ## The return of a HEARD stop (R45) -/

variable {s t : State}

/-- The status to which a HEARD stop of the route returns (R45). -/
def State.returned (s : State) (p : Stop) : Status := p.returnStatus (s.segmentState p.segment) s.route.state

/-- A stop's segment is CLOSED or its route RETIRED: no recheck is left to it (R45). -/
def State.ended (s : State) (p : Stop) : Prop := s.segmentState p.segment = .closed ∨ s.route.state = .retired

theorem Stop.latestStatus_eq (p : Stop) :
    p.latestStatus = if p.latest.any (·.recClass = .billing) then .read else .flagged := by
  unfold Stop.latestStatus
  cases p.latest with
  | none => rfl
  | some l => cases h : l.recClass <;> simp [h, RecClass.status]

theorem Stop.latestStatus_cases (p : Stop) : p.latestStatus = .read ∨ p.latestStatus = .flagged := by
  rw [p.latestStatus_eq]
  split <;> simp

/-- No stop returns to HEARD. -/
theorem State.returned_ne_heard (s : State) (p : Stop) : s.returned p ≠ .heard := by
  unfold State.returned Stop.returnStatus
  split
  case h_4 =>
    split
    · rcases p.latestStatus_cases with h | h <;> rw [h] <;> nofun
    · nofun
  case h_5 => split <;> nofun
  all_goals nofun

/-- A recheck lapses at the return of its stop exactly where the stop's segment or route has ended (R45). -/
theorem State.recheck_lapses_iff (s : State) (p : Stop) :
    p.prior = some .recheck ∧ s.returned p ≠ .recheck ↔ p.prior = some .recheck ∧ s.ended p := by
  refine and_congr_right fun h => ?_
  have hlatest := p.latestStatus_cases
  unfold State.returned Stop.returnStatus State.ended
  simp only [h]
  split
  · rename_i he
    rcases hlatest with hl | hl <;> simp [hl, he]
  · rename_i he
    simp [he]

theorem State.returnStop_eq {i : Nat} {p : Stop} (s : State) (h : s.route.stops[i]? = some p) :
    s.returnStop i =
      let v := s.setStatus i (s.returned p) none
      let v := if s.returned p = .missed then v.joinRevisit i else v
      if p.prior = some .recheck ∧ s.returned p ≠ .recheck then v.stepLapsed p.segment else v := by
  unfold State.returnStop
  rw [h]
  rfl

/-- The route book after the return of a stop (R45). -/
theorem State.returnStop_route {i : Nat} {p : Stop} (s : State) (h : s.route.stops[i]? = some p) :
    (s.returnStop i).route = { s.route with
      stops := s.route.stops.set i { p with status := s.returned p, prior := none }
      segments := s.route.segments.modify p.segment fun g =>
        { g with
          counts := (g.counts.mod (· - 1) p.status).mod (· + 1) (s.returned p)
          lapsed := if p.prior = some .recheck ∧ s.returned p ≠ .recheck then satStep 65535 g.lapsed else g.lapsed } } := by
  have hjoin : (if s.returned p = .missed then (s.setStatus i (s.returned p) none).joinRevisit i
      else s.setStatus i (s.returned p) none).route = (s.setStatus i (s.returned p) none).route := by
    split <;> simp
  rw [s.returnStop_eq h]
  dsimp only
  split
  · simp only [State.stepLapsed, State.modSegment, State.modRoute_route, hjoin, s.setStatus_route h, List.modify_modify_eq]
    rfl
  · rw [hjoin, s.setStatus_route h]

/-- The revisit list after the return of a stop: a stop that returns to MISSED joins it (R45, R60). -/
theorem State.returnStop_tracker {i : Nat} {p : Stop} (s : State) (h : s.route.stops[i]? = some p) :
    (s.returnStop i).tracker = { s.tracker with
      revisit := if s.returned p = .missed ∧ i ∉ s.tracker.revisit then s.tracker.revisit ++ [i] else s.tracker.revisit } := by
  have hlapse (v : State) : (if p.prior = some .recheck ∧ s.returned p ≠ .recheck then v.stepLapsed p.segment else v).tracker =
      v.tracker := by
    split <;> simp
  rw [s.returnStop_eq h]
  dsimp only
  rw [hlapse]
  by_cases hm : s.returned p = .missed
  · by_cases hi : i ∈ s.tracker.revisit <;> simp [hm, hi, State.joinRevisit]
  · simp [hm]

end Returning
end Sys2Proof.Machine

namespace Sys2Proof.Machine

section Completing

/-! ## The completion of a check -/

variable {s t u : State}

theorem execCheckCompletion_running {c : Check} (hrun : s.running = true) (hc : s.check = some c) :
    exec .checkCompletion s = .next (s.completeCheck c).announceDue := by
  change execCheckCompletion s = _
  rw [execCheckCompletion, whenRunning_next, if_pos hrun]
  simp only [hc]

theorem State.onlyNotices_noteComplete (s : State) (n before : Nat) : s.onlyNotices (s.noteComplete n before) := by
  unfold State.noteComplete
  split
  · exact s.onlyNotices_occur _ _
  · exact State.onlyNotices_of_van rfl

/-- SEGMENT_COMPLETE, raised before every other cause of the list (R53). -/
theorem State.raised.noteComplete {l : List (Cause × List Byte)} (h : s.raised t l) (n before : Nat)
    (hl : l.lookup .segmentComplete = none) :
    s.raised (t.noteComplete n before)
      (l ++ if t.segmentState n = .opened ∧ 0 < before ∧ t.outstanding n = 0 then [(.segmentComplete, u8 n)] else []) := by
  have h' := State.raised.occurIf (l₁ := l) (l₂ := []) (by simpa using h)
    (t.segmentState n = .opened ∧ 0 < before ∧ t.outstanding n = 0) (u8 n) (by simpa using hl)
  simpa [State.noteComplete] using h'

/-- What is refused, and why (R110, R113). -/
theorem Store.refuses_some {k : Store}
    (h : k.nextSequence = 4294967295 ∨ 8192 ≤ k.records.length ∧ k.records.head?.any (·.upload ≠ .uploaded) = true) :
    ∃ cause, k.refuses = some cause ∧ cause.code = if k.nextSequence = 4294967295 then 1 else 0 := by
  unfold Store.refuses
  by_cases hs : k.nextSequence = 4294967295
  · exact ⟨.sequence, by rw [if_pos hs], by rw [if_pos hs]; rfl⟩
  · exact ⟨.full, by rw [if_neg hs, if_pos (h.resolve_left hs)], by rw [if_neg hs]; rfl⟩

theorem Status.wanted_iff (x : Status) : x.wanted = true ↔ x = .unread ∨ x = .missed ∨ x = .recheck := by
  cases x <;> simp [Status.wanted]

/-- A segment's state is untouched by a change of the segment table that leaves every state. -/
theorem State.segmentState_congr {n : Nat} (h : t.route.segments.map (·.state) = s.route.segments.map (·.state)) :
    t.segmentState n = s.segmentState n := by
  simp only [State.segmentState, ← List.getElem?_map, h]

theorem State.returnStop_segmentState (s : State) (i n : Nat) : (s.returnStop i).segmentState n = s.segmentState n := by
  cases hp : s.route.stops[i]? with
  | none =>
    unfold State.returnStop
    rw [hp]
  | some p =>
    refine State.segmentState_congr ?_
    rw [s.returnStop_route hp]
    exact map_modify_eq (fun g : Segment => g.state) _ (by exact fun _ => rfl) _ _

/-- A discard up to its notices: the stop has returned and the drop is counted (R120). -/
def State.dropped (s : State) (i : Nat) : State :=
  ((s.modCheck fun _ => none).returnStop i).modStore fun k => { k with drops := k.drops + 1 }

/-- A refused completion: the discard, its notices and the refill scan (R120, R128). -/
theorem State.completeCheck_refused {c : Check} {p : Stop} {cause : StoreCause} (hp : s.route.stops[c.entry.stop]? = some p)
    (hr : s.store.refuses = some cause) :
    s.completeCheck c = ((((s.dropped c.entry.stop).occur .storeFull
      (u8 cause.code ++ u16 c.entry.stop ++ u8 c.findings.category.code.val ++ u16 s.store.fill)).noteComplete p.segment
        (s.outstanding p.segment)).announceList discardOrder).scanIf (s.returned p).wanted := by
  have hroute : (s.dropped c.entry.stop).route.stops = s.route.stops.set c.entry.stop
      { p with status := s.returned p, prior := none } := by
    rw [State.dropped, State.modStore_route, (s.modCheck fun _ => none).returnStop_route hp]
    rfl
  have hi : c.entry.stop < s.route.stops.length := (List.getElem?_eq_some_iff.1 hp).1
  have hfill : (s.dropped c.entry.stop).store.fill = s.store.fill := by simp [State.dropped, Store.fill]
  have hn : ((s.route.stops[c.entry.stop]?).map Stop.segment).getD 0 = p.segment := by rw [hp]; rfl
  unfold State.completeCheck
  simp only [State.modCheck_store, hr]
  unfold State.discardReading
  simp only [State.modCheck_route, hn]
  change ((((s.dropped c.entry.stop).occur .storeFull (u8 cause.code ++ u16 c.entry.stop ++
    u8 c.findings.category.code.val ++ u16 (s.dropped c.entry.stop).store.fill)).noteComplete p.segment
      (s.outstanding p.segment)).announceList discardOrder).scanIf _ = _
  rw [hfill]
  congr 1
  simp only [State.announceList_frame, State.noteComplete_frame, State.occur_frame]
  change ((s.dropped c.entry.stop).route.stops[c.entry.stop]?).any _ = _
  rw [hroute, List.getElem?_set_self hi]
  rfl

theorem State.dropped_route {i : Nat} {p : Stop} (s : State) (h : s.route.stops[i]? = some p) :
    (s.dropped i).route = { s.route with
      stops := s.route.stops.set i { p with status := s.returned p, prior := none }
      segments := s.route.segments.modify p.segment fun g =>
        { g with
          counts := (g.counts.mod (· - 1) p.status).mod (· + 1) (s.returned p)
          lapsed := if p.prior = some .recheck ∧ s.returned p ≠ .recheck then satStep 65535 g.lapsed else g.lapsed } } := by
  rw [State.dropped, State.modStore_route]
  exact (s.modCheck fun _ => none).returnStop_route h

theorem State.dropped_tracker {i : Nat} {p : Stop} (s : State) (h : s.route.stops[i]? = some p) :
    (s.dropped i).tracker = { s.tracker with
      revisit := if s.returned p = .missed ∧ i ∉ s.tracker.revisit then s.tracker.revisit ++ [i] else s.tracker.revisit } := by
  rw [State.dropped, State.modStore_tracker]
  exact (s.modCheck fun _ => none).returnStop_tracker h

theorem State.dropped_segmentState (s : State) (i n : Nat) : (s.dropped i).segmentState n = s.segmentState n :=
  (s.modCheck fun _ => none).returnStop_segmentState i n

theorem State.outstanding_congr (h : t.route = s.route) (n : Nat) : t.outstanding n = s.outstanding n := by
  simp only [State.outstanding, h]

theorem State.dropped_frame (s : State) (i : Nat) : s.frame [.check, .store, .route, .tracker] (s.dropped i) := by
  intro b hb
  cases b <;> simp_all [State.agree, State.dropped]

theorem State.frame_trans {ps : List Part} (h1 : s.frame ps t) (h2 : t.frame ps u) : s.frame ps u := by
  intro b hb
  have h1 := h1 b hb
  have h2 := h2 b hb
  cases b <;> exact Eq.trans h2 h1

theorem State.frame_mono {ps qs : List Part} (h : s.frame ps t) (hsub : ps ⊆ qs) : s.frame qs t :=
  fun b hb => h b fun hp => hb (hsub hp)

/-- Settles O30: the stop returns, the drop is counted, then come the two notices and the refill scan. -/
theorem completionDiscards : Obligations.CompletionDiscards := by
  intro c p s hrun hcheck hp exhausted hrefused i segment ended settledStatus new lapses
  obtain ⟨cause, hcause, hcode⟩ := Store.refuses_some hrefused
  have hnew : new = s.returned p := by
    simp only [new, settledStatus, ← Stop.latestStatus_eq]
    unfold State.returned Stop.returnStatus
    rcases p.prior with _ | q
    · rfl
    · cases q <;> rfl
  have hlapses : lapses ↔ p.prior = some .recheck ∧ s.returned p ≠ .recheck := (s.recheck_lapses_iff p).symm
  have hvan : (s.dropped i).van = s.van := by simp [State.dropped]
  let d := s.dropped i
  let detail := u8 cause.code ++ u16 i ++ u8 c.findings.category.code.val ++ u16 s.store.fill
  let u := (d.occur .storeFull detail).noteComplete p.segment (s.outstanding p.segment)
  let v := (u.announceList discardOrder).scanIf (s.returned p).wanted
  have ht : s.completeCheck c = v := State.completeCheck_refused hp hcause
  have huroute : u.route = d.route := by simp [u]
  have hutracker : u.tracker = d.tracker := by simp [u]
  have hutx : u.tx = s.tx := by simp [u, d, State.dropped]
  have hvroute : v.announceDue.route = d.route := by simp [v, huroute]
  have hvtracker : v.announceDue.tracker = d.tracker := by simp [v, hutracker]
  have hvvan : v.van = (u.announceList discardOrder).van := by simp [v]
  have hvtx : v.announceDue.tx = if (s.returned p).wanted = true then
      ({ s with route := d.route, tracker := d.tracker } : State).refillScan.tx else s.tx := by
    simp only [State.announceDue_frame, v, State.scanIf]
    split
    · exact State.refillScan_tx_congr (by simpa using huroute) (by simpa using hutracker) (by simpa using hutx)
    · simpa using hutx
  refine ⟨v.announceDue, ht ▸ execCheckCompletion_running hrun hcheck, ?_, ?_, ?_, ?_, ?_, ?_, ?_, ?_, ?_⟩
  · simp [v, u, d, State.dropped]
  · simp [v, u, d, State.dropped]
  · rw [hvroute, hnew]
    simpa only [hlapses] using s.dropped_route hp
  · rw [hvtracker, hnew]
    exact s.dropped_tracker hp
  · rw [hvtx, hvroute, hvtracker, hnew]
    simp only [Status.wanted_iff]
  · simp [v, u, d, State.dropped]
  · exact (((((State.onlyNotices_of_van hvan).trans (d.onlyNotices_occur _ _)).trans (State.onlyNotices_noteComplete _ _ _)).trans
      (State.onlyNotices_announceList _ _)).trans (State.onlyNotices_of_van hvvan)).trans (State.onlyNotices_announceList _ _)
  · have hfull : s.raised (d.occur .storeFull detail) [(.storeFull, detail)] :=
      State.raised_occur _ _ (congrArg Van.notices hvan) rfl
    have hcomplete := hfull.noteComplete p.segment (s.outstanding p.segment) rfl
    have hstate : (d.occur .storeFull detail).segmentState p.segment = segment := s.dropped_segmentState i p.segment
    have hleft : v.announceDue.outstanding p.segment = (d.occur .storeFull detail).outstanding p.segment :=
      State.outstanding_congr (by rw [hvroute]; simp [d]) _
    rw [hleft, ← hstate, ← hcode]
    exact State.raised_announceDue ((State.raised_announceList hcomplete discardOrder).congr (congrArg Van.notices hvvan))
  · refine State.frame_announceDue ?_
    have hd := s.dropped_frame i
    intro b hb
    have hb := hd b fun h => hb (by simp_all)
    cases b <;> simp_all [State.agree, v, u, d]

end Completing
end Sys2Proof.Machine

namespace Sys2Proof.Machine

section Blocks

/-! ## The block formed by an upload start (R152, R207) -/

variable {s t : State}

theorem countP_markInFlight (n : Nat) (l : List Record) :
    (markInFlight n l).countP (·.upload ≠ .uploaded) = l.countP (·.upload ≠ .uploaded) := by
  induction l generalizing n with
  | nil => cases n <;> rfl
  | cons r rest ih =>
    cases n with
    | zero => rfl
    | succ n =>
      unfold markInFlight
      split
      · next hr => rw [List.countP_cons, List.countP_cons, ih, hr]; rfl
      · rw [List.countP_cons, List.countP_cons, ih]

/-- A block of at least one record begins with the oldest (R207). -/
theorem blockRecords_head (format size : Nat) (l : List Record) : (blockRecords format (size + 1) l).head? = l.head? := by
  cases l with
  | nil => rfl
  | cons r rest =>
    have hsize : (if format = 2 then min (size + 1) Config.maxFullBlock else size + 1) ≠ 0 := by
      split <;> simp [Config.maxFullBlock]
    simp [blockRecords, List.head?_take, hsize]

theorem State.formBlock_forms {size : Nat} (h : s.dock.blockSize = some (size + 1)) : s.formsBlock s.formBlock := by
  have hhead : (blockRecords (s.dock.format.getD 1) (s.dock.blockSize.getD 0) s.store.pendingRecords).head? =
      s.store.pendingRecords.head? := by
    rw [h]
    exact blockRecords_head _ _ _
  refine ⟨rfl, ?_⟩
  rw [← hhead]
  rfl

/-- Forming a block is about the store and the dock link alone. -/
theorem State.formsBlock_congr {s' t' : State} (h : s.formsBlock t) (hs : s'.store = s.store) (hd : s'.dock = s.dock)
    (ht : t'.store = t.store) (hu : t'.dock = t.dock) : s'.formsBlock t' := by
  unfold State.formsBlock at h ⊢
  rw [hs, hd, ht, hu]
  exact h

theorem State.formBlock_fill (s : State) : s.formBlock.store.fill = s.store.fill :=
  countP_markInFlight _ _

theorem State.uploadStart_fill (s : State) : s.uploadStart.store.fill = s.store.fill := by
  unfold State.uploadStart
  split
  · exact State.formBlock_fill _
  · rfl

theorem Store.append_pending (k : Store) {r : Record} (hr : r.upload = .pending) : (k.append r).pendingRecords ≠ [] := by
  simp [Store.append, Store.pendingRecords, hr]

/-- An append, with the reclaim that a full store calls for (R111, R119). -/
theorem Store.append_eq (k : Store) (r : Record) : k.append r = { k with
    records := (if 8192 ≤ k.records.length then k.records.tail else k.records) ++ [r]
    nextSequence := k.nextSequence + 1, appends := k.appends + 1
    reclaims := if 8192 ≤ k.records.length then k.reclaims + 1 else k.reclaims } := by
  simp only [Store.append, Config.storeCapacity, decide_eq_true_eq]

end Blocks

section Reporting

/-! ## The report and the notices of a commit (R116) -/

variable {s t : State}

theorem lookup_ite_singleton {e c : Cause} (h : e ≠ c) (b : Prop) [Decidable b] (d : List Byte) :
    (if b then [(c, d)] else []).lookup e = none := by
  have hne : (e == c) = false := by simpa using h
  split
  · simp [List.lookup_cons, hne]
  · rfl

theorem State.commitReports_eq (s : State) (i : Nat) (level : ReportLevel) (r : Record) :
    s.commitReports i level r =
      let q := if level ≠ .none then
        s.queueReport 0x82 (readingReportBody level (((s.route.stops[i]?).map (·.status)).getD .unread) r) else s
      if level = .urgent then q.occur .urgentRecord (u32 r.sequence ++ u16 i ++ u8 r.category.code.val) else q := by
  cases level <;> rfl

/-- A report joins the outbound queue or is counted as lost (R181). -/
theorem State.queueReport_eq (s : State) (kind : Byte) (body : List Byte) :
    s.queueReport kind body = if s.van.outbound.length < 56 then s.queueMessage ⟨kind, 0, body⟩ else
      (s.modVan fun v => { v with counters := { v.counters with reportsLost := satStep 65535 v.counters.reportsLost } }).occur
        .reportsLost (u8 kind.toNat ++ u16 (satStep 65535 s.van.counters.reportsLost)) := rfl

/-- The report of a commit in the outbound queue. -/
theorem State.commitReports_mail (s : State) (i : Nat) (level : ReportLevel) (r : Record) :
    let v := (s.commitReports i level r).van
    v.outbound = s.van.outbound ++ (if level ≠ .none ∧ s.van.outbound.length < 56 then
      [⟨0x82, 0, readingReportBody level (((s.route.stops[i]?).map (·.status)).getD .unread) r⟩] else []) ∧
    v.counters = (if level ≠ .none ∧ 56 ≤ s.van.outbound.length then
      { s.van.counters with reportsLost := satStep 65535 s.van.counters.reportsLost } else s.van.counters) ∧
    s.van.sameLink v ∧ v.attnPhase = s.van.attnPhase ∧ v.attnOwed = s.van.attnOwed := by
  rw [s.commitReports_eq, s.queueReport_eq]
  by_cases hroom : s.van.outbound.length < 56
  · have hle : ¬ 56 ≤ s.van.outbound.length := by omega
    cases level <;>
      simp [hroom, hle, State.queueMessage, State.modVan, Van.sameLink, State.occur, State.modNotice]
  · have hle : 56 ≤ s.van.outbound.length := by omega
    cases level <;>
      simp [hroom, hle, State.modVan, Van.sameLink, State.occur, State.modNotice]

end Reporting

section Committing

/-! ## The commit of a reading (R110) -/

variable {s t u : State}

/-- What is not refused (R110). -/
theorem Store.refuses_none {k : Store} (h1 : k.nextSequence ≠ 4294967295)
    (h2 : k.records.length < 8192 ∨ k.records.head?.all (·.upload = .uploaded) = true) : k.refuses = none := by
  have hfull : ¬ (Config.storeCapacity ≤ k.records.length ∧ k.records.head?.any (·.upload ≠ .uploaded) = true) := by
    rintro ⟨hlen, hany⟩
    rcases h2 with h | h
    · exact absurd hlen (Nat.not_le.2 h)
    · cases hr : k.records.head? <;> simp_all
  unfold Store.refuses
  rw [if_neg h1, if_neg hfull]

theorem RecClass.status_eq (x : RecClass) : x.status = if x = .billing then .read else .flagged := by
  cases x <;> rfl

/-- The status that a commit gives, and whether a recheck lapses (R44). -/
theorem commitStatus_eq (x : RecClass) (n : Nat) (recheck followup : Bool) (route : RouteState) (segment : SegmentState) :
    commitStatus x (n == 0) recheck followup route segment =
      let asked := recheck = true ∧ n = 0 ∧ followup = false
      let free := route = .active ∧ segment ≠ .closed
      (if asked ∧ free then .recheck else if x = .billing then .read else .flagged, decide (asked ∧ ¬free)) := by
  unfold commitStatus
  rw [x.status_eq]
  by_cases h : recheck = true ∧ n = 0 ∧ followup = false
  · by_cases hf : route = .active ∧ segment ≠ .closed <;> simp [h, hf]
  · simp [h]

/-- The stop update of a commit, up to SEGMENT_COMPLETE (R44, R115). -/
def State.settleStop (s : State) (i : Nat) (p : Stop) (r : Record) (outcome : Status × Bool) : State :=
  let s := (s.modStop i fun q => q.withRecord r).setStatus i outcome.1 none
  let s := if outcome.2 then s.stepLapsed p.segment else s
  if p.prior = some .missed then (s.stepLate p.segment).leaveRevisit i else s

theorem State.commitStop_eq {i : Nat} {p : Stop} (s : State) (h : s.route.stops[i]? = some p) (r : Record)
    (asked followup : Bool) : s.commitStop i r asked followup =
      (s.settleStop i p r (commitStatus r.recClass (p.recordCount == 0) asked followup s.route.state
        (s.segmentState p.segment))).noteComplete p.segment (s.outstanding p.segment) := by
  unfold State.commitStop
  rw [h]
  rfl

theorem State.stepLapsedIf_route (s : State) (b : Prop) [Decidable b] (n : Nat) :
    (if b then s.stepLapsed n else s).route = { s.route with
      segments := s.route.segments.modify n fun g => { g with lapsed := if b then satStep 65535 g.lapsed else g.lapsed } } := by
  split
  · rfl
  · exact congrArg (fun l => { s.route with segments := l }) (List.modify_id n _).symm

theorem State.stepLateIf_route (s : State) (b : Prop) [Decidable b] (n i : Nat) :
    (if b then (s.stepLate n).leaveRevisit i else s).route = { s.route with
      segments := s.route.segments.modify n fun g => { g with late := if b then satStep 65535 g.late else g.late } } := by
  split
  · rfl
  · exact congrArg (fun l => { s.route with segments := l }) (List.modify_id n _).symm

theorem State.settleStop_route {i : Nat} {p : Stop} (s : State) (h : s.route.stops[i]? = some p) (r : Record)
    (outcome : Status × Bool) : (s.settleStop i p r outcome).route = { s.route with
      stops := s.route.stops.set i { p.withRecord r with status := outcome.1, prior := none }
      segments := s.route.segments.modify p.segment fun g =>
        { g with
          counts := (g.counts.mod (· - 1) p.status).mod (· + 1) outcome.1
          lapsed := if outcome.2 = true then satStep 65535 g.lapsed else g.lapsed
          late := if p.prior = some .missed then satStep 65535 g.late else g.late } } := by
  have hp : (s.modStop i fun q => q.withRecord r).route.stops[i]? = some (p.withRecord r) := by
    simp [State.modStop, h]
  have hset : ((s.modStop i fun q => q.withRecord r).setStatus i outcome.1 none).route = { s.route with
      stops := s.route.stops.set i { p.withRecord r with status := outcome.1, prior := none }
      segments := s.route.segments.modify p.segment fun g =>
        { g with counts := (g.counts.mod (· - 1) p.status).mod (· + 1) outcome.1 } } := by
    rw [State.setStatus_route _ hp]
    simp [State.modStop, modify_eq_set_of_getElem? h]
    rfl
  unfold State.settleStop
  dsimp only
  rw [State.stepLateIf_route, State.stepLapsedIf_route, hset]
  simp only [List.modify_modify_eq]
  rfl

theorem State.settleStop_tracker (s : State) (i : Nat) (p : Stop) (r : Record) (outcome : Status × Bool) :
    (s.settleStop i p r outcome).tracker = { s.tracker with
      revisit := if p.prior = some .missed then s.tracker.revisit.filter (· ≠ i) else s.tracker.revisit } := by
  unfold State.settleStop
  dsimp only
  by_cases hl : outcome.2 = true <;> by_cases hm : p.prior = some .missed <;> simp [hl, hm, State.leaveRevisit]

theorem State.settleStop_frame (s : State) (i : Nat) (p : Stop) (r : Record) (outcome : Status × Bool) :
    s.frame [.route, .tracker] (s.settleStop i p r outcome) := by
  intro b hb
  unfold State.settleStop
  dsimp only
  by_cases hl : outcome.2 = true <;> by_cases hm : p.prior = some .missed <;> cases b <;> simp_all [State.agree]

end Committing
end Sys2Proof.Machine

namespace Sys2Proof.Machine

section Appending

/-! ## A completion whose append is taken -/

variable {s t u : State}

/-- Of the van link nothing but the notice state has changed. -/
def State.occursOnly (s t : State) : Prop := t.van = { s.van with notices := t.van.notices }

theorem State.occursOnly.trans (h1 : s.occursOnly t) (h2 : t.occursOnly u) : s.occursOnly u := by
  unfold State.occursOnly at *
  rw [h2, h1]

theorem State.occursOnly_of_van (h : t.van = s.van) : s.occursOnly t := by
  unfold State.occursOnly
  rw [h]

theorem State.occursOnly_noteComplete (s : State) (n before : Nat) : s.occursOnly (s.noteComplete n before) := by
  unfold State.noteComplete
  split <;> rfl

theorem State.occursOnly_testStoreHigh (s : State) (before : Nat) : s.occursOnly (s.testStoreHigh before) := by
  simp only [State.testStoreHigh]
  split <;> rfl

/-- A commit up to its notices and its report: the record stands, its stop is settled (R110). -/
def State.recorded (s : State) (c : Check) (p : Stop) (r : Record) (outcome : Status × Bool) : State :=
  ((s.modCheck fun _ => none).modStore fun k => k.append r).settleStop c.entry.stop p r outcome

/-- A commit up to the announcement of its notices: SEGMENT_COMPLETE, STORE_HIGH, then the report. -/
def State.reported (s : State) (c : Check) (p : Stop) (r : Record) (outcome : Status × Bool) (level : ReportLevel) : State :=
  (((s.recorded c p r outcome).noteComplete p.segment (s.outstanding p.segment)).testStoreHigh s.store.fill).commitReports
    c.entry.stop level r

theorem State.completeCheck_taken {c : Check} {p : Stop} (hp : s.route.stops[c.entry.stop]? = some p)
    (hr : s.store.refuses = none) :
    let d := s.route.disposition[c.findings.category.code]
    let r := c.record c.findings d.recClass s.store.nextSequence (some p)
    s.completeCheck c = (((s.reported c p r (commitStatus d.recClass (p.recordCount == 0) d.recheck c.entry.followup
      s.route.state (s.segmentState p.segment)) d.report).announceList commitOrder).offerRecheck c.entry.stop).uploadStart := by
  intro d r
  unfold State.completeCheck
  simp only [State.modCheck_store, hr]
  unfold State.commitReading
  simp only [State.modCheck_store, State.modCheck_route, hp]
  rw [State.commitStop_eq (s := (s.modCheck fun _ => none).modStore fun k => k.append r) hp]
  rfl

theorem State.recorded_route {c : Check} {p : Stop} (hp : s.route.stops[c.entry.stop]? = some p) (r : Record)
    (outcome : Status × Bool) : (s.recorded c p r outcome).route = { s.route with
      stops := s.route.stops.set c.entry.stop { p.withRecord r with status := outcome.1, prior := none }
      segments := s.route.segments.modify p.segment fun g =>
        { g with
          counts := (g.counts.mod (· - 1) p.status).mod (· + 1) outcome.1
          lapsed := if outcome.2 = true then satStep 65535 g.lapsed else g.lapsed
          late := if p.prior = some .missed then satStep 65535 g.late else g.late } } :=
  State.settleStop_route ((s.modCheck fun _ => none).modStore fun k => k.append r) hp r outcome

theorem State.recorded_segmentState {c : Check} {p : Stop} (hp : s.route.stops[c.entry.stop]? = some p) (r : Record)
    (outcome : Status × Bool) (n : Nat) : (s.recorded c p r outcome).segmentState n = s.segmentState n := by
  refine State.segmentState_congr ?_
  rw [State.recorded_route hp]
  exact map_modify_eq (fun g : Segment => g.state) _ (by exact fun _ => rfl) _ _

theorem State.recorded_frame (c : Check) (p : Stop) (r : Record) (outcome : Status × Bool) :
    s.frame [.check, .store, .route, .tracker] (s.recorded c p r outcome) := by
  intro b hb
  have h := State.settleStop_frame ((s.modCheck fun _ => none).modStore fun k => k.append r) c.entry.stop p r outcome b
    fun h => hb (by simp_all)
  cases b <;> simp_all [State.agree, State.recorded]

theorem State.recorded_store (c : Check) (p : Stop) (r : Record) (outcome : Status × Bool) :
    (s.recorded c p r outcome).store = s.store.append r :=
  State.settleStop_frame _ _ _ _ _ .store (by decide)

theorem State.recorded_check (c : Check) (p : Stop) (r : Record) (outcome : Status × Bool) :
    (s.recorded c p r outcome).check = none :=
  State.settleStop_frame _ _ _ _ _ .check (by decide)

theorem lookup_append_none {e : Cause} {l₁ l₂ : List (Cause × List Byte)} (h₁ : l₁.lookup e = none)
    (h₂ : l₂.lookup e = none) : (l₁ ++ l₂).lookup e = none := by
  rw [List.lookup_append, h₁, h₂]
  rfl

theorem State.frame_announceList {ps : List Part} (h : s.frame (.van :: ps) t) (l : List Cause) :
    s.frame (.van :: ps) (t.announceList l) := by
  intro b hb
  have ht := h b hb
  cases b <;> simp_all [State.agree]

/-- The notices and the report of a commit touch the van link alone. -/
theorem State.reported_frame (c : Check) (p : Stop) (r : Record) (outcome : Status × Bool) (level : ReportLevel) :
    (s.recorded c p r outcome).frame [.van] (s.reported c p r outcome level) := by
  intro b hb
  cases b <;> simp_all [State.agree, State.reported]

theorem State.recorded_tracker (c : Check) (p : Stop) (r : Record) (outcome : Status × Bool) :
    (s.recorded c p r outcome).tracker = { s.tracker with
      revisit := if p.prior = some .missed then s.tracker.revisit.filter (· ≠ c.entry.stop) else s.tracker.revisit } :=
  State.settleStop_tracker ((s.modCheck fun _ => none).modStore fun k => k.append r) c.entry.stop p r outcome

/-- A report that is called for raises REPORTS_LOST where it finds no place (R181). -/
theorem State.raised.queueReportIf {l : List (Cause × List Byte)} (h : s.raised t l) (b : Prop) [Decidable b] (kind : Byte)
    (body : List Byte) (hl : l.lookup .reportsLost = none) (hv : s.occursOnly t) :
    s.raised (if b then t.queueReport kind body else t)
      ((if b ∧ 56 ≤ s.van.outbound.length then
        [(Cause.reportsLost, u8 kind.toNat ++ u16 (satStep 65535 s.van.counters.reportsLost))] else []) ++ l) := by
  have hout : t.van.outbound = s.van.outbound := by rw [hv]
  have hcount : t.van.counters = s.van.counters := by rw [hv]
  rw [State.queueReport_eq, hout, hcount]
  by_cases hroom : s.van.outbound.length < 56
  · have hle : ¬ 56 ≤ s.van.outbound.length := Nat.not_le.2 hroom
    simp only [hroom, hle, and_false, if_false, if_true, List.nil_append]
    exact h.congr (by split <;> rfl)
  · have hle : 56 ≤ s.van.outbound.length := Nat.not_lt.1 hroom
    simp only [hroom, hle, and_true, if_false]
    split
    · exact State.raised.occur (l₁ := []) (h.congr rfl) _ hl
    · exact h

/-- STORE_HIGH, raised before the causes of the list (R118). -/
theorem State.raised.testStoreHigh {l : List (Cause × List Byte)} (h : s.raised t l) (before : Nat)
    (hl : l.lookup .storeHigh = none) :
    s.raised (t.testStoreHigh before)
      ((if before < t.route.params.storeHigh ∧ t.route.params.storeHigh ≤ t.store.fill then
        [(.storeHigh, u16 t.store.fill ++ u16 t.route.params.storeHigh)] else []) ++ l) :=
  State.raised.occurIf (l₁ := []) h _ _ hl

/-- What occurs at a commit, in the order of its notices (R53, R116, R118, R181). -/
theorem State.reported_raised (c : Check) (p : Stop) (r : Record) (outcome : Status × Bool) (level : ReportLevel) :
    let v := s.recorded c p r outcome
    s.raised (s.reported c p r outcome level)
      ((if level ≠ .none ∧ 56 ≤ s.van.outbound.length then
          [(Cause.reportsLost, u8 0x82 ++ u16 (satStep 65535 s.van.counters.reportsLost))] else []) ++
        (if level = .urgent then [(Cause.urgentRecord, u32 r.sequence ++ u16 c.entry.stop ++ u8 r.category.code.val)] else []) ++
        (if s.store.fill < v.route.params.storeHigh ∧ v.route.params.storeHigh ≤ v.store.fill then
          [(Cause.storeHigh, u16 v.store.fill ++ u16 v.route.params.storeHigh)] else []) ++
        (if v.segmentState p.segment = .opened ∧ 0 < s.outstanding p.segment ∧ v.outstanding p.segment = 0 then
          [(Cause.segmentComplete, u8 p.segment)] else [])) := by
  intro v
  have hvan : v.van = s.van := State.recorded_frame c p r outcome .van (by decide)
  have hcomplete := (State.raised_nil (congrArg Van.notices hvan)).noteComplete p.segment (s.outstanding p.segment) rfl
  rw [List.nil_append] at hcomplete
  have hhigh := hcomplete.testStoreHigh s.store.fill (lookup_ite_singleton (by decide) _ _)
  have honly := ((State.occursOnly_of_van hvan).trans (v.occursOnly_noteComplete p.segment (s.outstanding p.segment))).trans
    (State.occursOnly_testStoreHigh _ s.store.fill)
  generalize hu : (v.noteComplete p.segment (s.outstanding p.segment)).testStoreHigh s.store.fill = u at hhigh honly
  have hreport := hhigh.queueReportIf (level ≠ .none) 0x82 (readingReportBody level
    ((u.route.stops[c.entry.stop]?.map (·.status)).getD .unread) r)
    (lookup_append_none (lookup_ite_singleton (by decide) _ _) (lookup_ite_singleton (by decide) _ _)) honly
  have hurgent := State.raised.occurIf hreport (level = .urgent)
    (c := .urgentRecord) (u32 r.sequence ++ u16 c.entry.stop ++ u8 r.category.code.val)
    (lookup_append_none (lookup_ite_singleton (by decide) _ _)
      (lookup_append_none (lookup_ite_singleton (by decide) _ _) (lookup_ite_singleton (by decide) _ _)))
  have hsame : s.reported c p r outcome level = u.commitReports c.entry.stop level r := by rw [← hu]; rfl
  have hw : (v.noteComplete p.segment (s.outstanding p.segment)).route = v.route ∧
      (v.noteComplete p.segment (s.outstanding p.segment)).store = v.store := by simp
  rw [hw.1, hw.2] at hurgent
  rw [hsame, State.commitReports_eq]
  exact (congrArg (s.raised _) (List.append_assoc _ _ _)).mpr hurgent

/-- Everything of the van link after the announcements of a commit (R116, R181, R183). -/
theorem State.reported_mail {c : Check} {p : Stop} (hp : s.route.stops[c.entry.stop]? = some p) (r : Record)
    (outcome : Status × Bool) (level : ReportLevel) :
    let v := (s.reported c p r outcome level).van
    v.outbound = s.van.outbound ++ (if level ≠ .none ∧ s.van.outbound.length < 56 then
      [⟨0x82, 0, readingReportBody level outcome.1 r⟩] else []) ∧
    v.counters = (if level ≠ .none ∧ 56 ≤ s.van.outbound.length then
      { s.van.counters with reportsLost := satStep 65535 s.van.counters.reportsLost } else s.van.counters) ∧
    s.van.sameLink v ∧ v.attnPhase = s.van.attnPhase ∧ v.attnOwed = s.van.attnOwed := by
  have hi : c.entry.stop < s.route.stops.length := (List.getElem?_eq_some_iff.1 hp).1
  have hvan : (s.recorded c p r outcome).van = s.van := State.recorded_frame c p r outcome .van (by decide)
  have hroute := State.recorded_route hp r outcome
  have honly := ((State.occursOnly_of_van hvan).trans (State.occursOnly_noteComplete _ p.segment (s.outstanding p.segment))).trans
    (State.occursOnly_testStoreHigh _ s.store.fill)
  unfold State.reported
  generalize hu : ((s.recorded c p r outcome).noteComplete p.segment (s.outstanding p.segment)).testStoreHigh s.store.fill = u
    at honly
  have hstatus : ((u.route.stops[c.entry.stop]?).map (·.status)).getD .unread = outcome.1 := by
    rw [← hu]
    simp [hroute, hi]
  obtain ⟨hout, hcounters, ⟨hrx, hhold, hreset, hmode⟩, hphase, howed⟩ := u.commitReports_mail c.entry.stop level r
  rw [hstatus] at hout
  rw [honly] at hout hcounters hrx hhold hreset hmode hphase howed
  exact ⟨hout, hcounters, ⟨hrx, hhold, hreset, hmode⟩, hphase, howed⟩

end Appending

section Offering

variable {s t : State}

theorem State.offerRecheck_eq {i : Nat} {p : Stop} (h : s.route.stops[i]? = some p) :
    s.offerRecheck i = if p.status = .recheck then
      (if s.offerSucceeds i p then s.pushPoll ⟨i, p.meterId, .recheck⟩ else s).refillScan else s := by
  simp only [State.offerRecheck, h, State.pollEntry]
  rfl

theorem State.offerRecheck_same {i : Nat} {p : Stop} (h : s.route.stops[i]? = some p) (hst : p.status ≠ .recheck) :
    s.offerRecheck i = s := by
  rw [State.offerRecheck_eq h, if_neg hst]

theorem State.offerRecheck_txState (s : State) (i : Nat) : (s.offerRecheck i).tx.state = s.tx.state := by
  unfold State.offerRecheck
  split
  · rfl
  · split
    · split <;> simp
    · rfl

theorem State.frame_offerRecheck (s : State) (i : Nat) : s.frame [.tx] (s.offerRecheck i) := by
  intro b hb
  cases b <;> simp_all [State.agree]

theorem State.frame_uploadStart (s : State) : s.frame [.store, .dock] s.uploadStart := by
  intro b hb
  cases b <;> simp_all [State.agree]

/-- A stop set to RECHECK whose offer nothing bars joins the poll queue (R117). -/
theorem State.mem_offerRecheck {i : Nat} {p q : Stop} (h : s.route.stops[i]? = some q) (hst : q.status = .recheck)
    (hstatic : q.static = p.static) (hattempts : q.attempts = p.attempts) (hpoll : p.pollable = true)
    (hseg : s.segmentState p.segment = .opened) (hlimit : p.attempts < s.route.params.pollLimit)
    (hname : s.tx.names i = false) (hroom : s.tx.queue.length < 32) :
    (⟨i, p.meterId, .recheck⟩ : PollEntry) ∈ (s.offerRecheck i).tx.queue := by
  obtain ⟨hqueue, hstate⟩ := Bool.or_eq_false_iff.1 hname
  have hmeter : q.meterId = p.meterId := by rw [Stop.meterId, hstatic, Stop.meterId]
  have hpollable : q.pollable = p.pollable := by rw [Stop.pollable, hstatic, Stop.pollable]
  have hsegment : q.segment = p.segment := by rw [Stop.segment, hstatic, Stop.segment]
  have hoffer : s.offerSucceeds i q = true := by
    simp only [State.offerSucceeds, hpollable, hpoll, hsegment, hseg, hattempts, hlimit, hqueue, hstate, Config.pollCapacity, hroom]
    simp
  rw [State.offerRecheck_eq h, if_pos hst, if_pos hoffer, hmeter]
  exact State.mem_refillScan_queue (by simp [State.pushPoll, State.modTx])

/-- The upload start test where the link waits for a record (R152). -/
theorem State.uploadStart_forms {size : Nat} (hup : s.dock.link = .ready ∧ s.dock.wanted = some true ∧ s.dock.suspended = false)
    (hpending : s.store.pendingRecords ≠ []) (hsize : s.dock.blockSize = some (size + 1)) (hstore : t.store = s.store)
    (hdock : t.dock = { s.dock with link := .uploading, runAcked := 0 }) : t.formsBlock s.uploadStart.announceDue := by
  obtain ⟨hlink, hwanted, hsuspended⟩ := hup
  have hstart : s.uploadStart = (s.modDock fun d => { d with link := .uploading, runAcked := 0 }).formBlock :=
    if_pos ⟨hlink, hwanted, by rw [hsuspended]; rfl, hpending⟩
  have hforms := State.formBlock_forms (s := s.modDock fun d => { d with link := .uploading, runAcked := 0 }) hsize
  rw [hstart]
  exact State.formsBlock_congr hforms hstore hdock (by simp) (by simp)

theorem State.uploadStart_same (hup : ¬ (s.dock.link = .ready ∧ s.dock.wanted = some true ∧ s.dock.suspended = false)) :
    s.uploadStart = s := by
  refine if_neg fun ⟨hlink, hwanted, hsuspended, _⟩ => hup ⟨hlink, hwanted, by simpa using hsuspended⟩

end Offering
end Sys2Proof.Machine

namespace Sys2Proof.Machine

/-- Settles O29: the record joins the store and the stop is settled; then the report and the notices, the offer of a recheck poll
and the start of an upload, each by what it changes. -/
theorem completionAppends : Obligations.CompletionAppends := by
  intro c p size s hrun hcheck hp hseq hroom i e f d r full settledStatus asked open_ new level uploads appended
  let outcome := commitStatus d.recClass (p.recordCount == 0) d.recheck e.followup s.route.state (s.segmentState p.segment)
  have houtcome : outcome = (new, decide (asked ∧ ¬open_)) := commitStatus_eq _ _ _ _ _ _
  have hnew : outcome.1 = new := by rw [houtcome]
  have hlapse : outcome.2 = true ↔ asked ∧ ¬open_ := by rw [houtcome]; simp
  have hi : i < s.route.stops.length := (List.getElem?_eq_some_iff.1 hp).1
  let v := s.recorded c p r outcome
  let w := (s.reported c p r outcome level).announceList commitOrder
  let x := w.offerRecheck i
  let y := x.uploadStart
  have hy : s.completeCheck c = y := State.completeCheck_taken hp (Store.refuses_none hseq hroom)
  have hvw : v.frame [.van] w := State.frame_announceList (State.reported_frame c p r outcome level) commitOrder
  have hsv : s.frame [.check, .store, .route, .tracker] v := State.recorded_frame c p r outcome
  have happend : v.store = s.store.append r := State.recorded_store c p r outcome
  have hxstore : x.store = v.store := by
    have hxw : x.store = w.store := by simp [x]
    exact hxw.trans (hvw .store (by decide))
  have hstore : x.store = appended := hxstore.trans (happend.trans (s.store.append_eq r))
  have hdock : x.dock = s.dock := by
    have hx : x.dock = w.dock := by simp [x]
    exact hx.trans ((hvw .dock (by decide)).trans (hsv .dock (by decide)))
  have hpending : x.store.pendingRecords ≠ [] := by
    rw [hxstore, happend]
    exact s.store.append_pending rfl
  have hroute : v.route = _ := State.recorded_route hp r outcome
  have hwroute : w.route = v.route := hvw .route (by decide)
  have hwtx : w.tx = s.tx := (hvw .tx (by decide)).trans (hsv .tx (by decide))
  have hstop : w.route.stops[i]? = some { p.withRecord r with status := new, prior := none } := by
    rw [hwroute, hroute, ← hnew]
    exact List.getElem?_set_self hi
  have hwseg : w.segmentState p.segment = s.segmentState p.segment :=
    (State.segmentState_congr (by rw [hwroute])).trans (State.recorded_segmentState hp r outcome p.segment)
  have hytx : y.announceDue.tx = x.tx := by simp [y]
  have hyroute : y.announceDue.route = v.route := by simp [y, x, hwroute]
  have hfill : y.announceDue.store.fill = v.store.fill := by
    have hy : y.announceDue.store = y.store := by simp
    rw [hy, State.uploadStart_fill, hxstore]
  have hvan : y.van = w.van := by simp [y, x]
  obtain ⟨hout, hcounters, hlink, hphase, howed⟩ := State.reported_mail hp r outcome level
  have honly : (s.reported c p r outcome level).onlyNotices y.announceDue :=
    ((State.onlyNotices_announceList (s.reported c p r outcome level) commitOrder).trans (State.onlyNotices_of_van hvan)).trans
      (y.onlyNotices_announceList Cause.all)
  obtain ⟨⟨notices, hnotices, hkinds, hpulsed⟩, hlink', hcounters'⟩ := honly
  refine ⟨y.announceDue, hy ▸ execCheckCompletion_running hrun hcheck, ?_, ?_, ?_, ?_, ?_, ?_, ?_, ?_, ?_, ?_, ?_, ?_, ?_⟩
  · simp [y, x, w, State.reported, State.recorded_check]
  · intro hup hsize
    refine State.uploadStart_forms (size := size) (s := x) ?_ hpending ?_ hstore.symm ?_
    · rw [hdock]; exact hup
    · rw [hdock]; exact hsize
    · rw [hdock]
  · intro hup
    have hyx : y = x := State.uploadStart_same (by rw [hdock]; exact hup)
    rw [hyx, ← hstore, ← hdock]
    simp
  · rw [hyroute, hroute, hnew]
    simp only [hlapse]
    rfl
  · have hytracker : y.announceDue.tracker = v.tracker := by
      have hyw : y.announceDue.tracker = w.tracker := by simp [y, x]
      exact hyw.trans (hvw .tracker (by decide))
    exact hytracker.trans (State.recorded_tracker c p r outcome)
  · intro hne
    rw [hytx, ← hwtx]
    exact congrArg State.tx (State.offerRecheck_same hstop hne)
  · rw [hytx, State.offerRecheck_txState, hwtx]
  · intro hst hpoll hseg hlimit hname hqueue
    rw [hytx]
    exact State.mem_offerRecheck hstop hst rfl rfl hpoll (hwseg.trans hseg) (by rw [hwroute, hroute]; exact hlimit)
      (by rw [hwtx]; exact hname) (by rw [hwtx]; exact hqueue)
  · refine ⟨notices, ?_, hkinds, ?_⟩
    · rw [hnotices, hout, hnew]
      rfl
    · unfold Van.pulsed at hpulsed ⊢
      rwa [hlink.2.2.2, hphase, howed] at hpulsed
  · exact hcounters'.trans hcounters
  · have hraised := State.raised_announceDue ((State.raised_announceList
      (State.reported_raised c p r outcome level) commitOrder).congr (congrArg Van.notices hvan))
    have hparams : v.route.params = s.route.params := by rw [hroute]
    have hvseg : v.segmentState p.segment = s.segmentState p.segment := State.recorded_segmentState hp r outcome p.segment
    have hleft : y.announceDue.outstanding p.segment = v.outstanding p.segment := State.outstanding_congr hyroute _
    rw [hfill, hleft, ← hparams, ← hvseg]
    exact hraised
  · obtain ⟨hrx, hhold, hreset, hmode⟩ := hlink
    obtain ⟨hrx', hhold', hreset', hmode'⟩ := hlink'
    exact ⟨hrx'.trans hrx, hhold'.trans hhold, hreset'.trans hreset, hmode'.trans hmode⟩
  · let parts : List Part := [.van, .check, .store, .route, .tracker, .tx, .dock]
    have hwx : w.frame parts x := State.frame_mono (w.frame_offerRecheck i) (by simp [parts])
    have hxy : x.frame parts y := State.frame_mono x.frame_uploadStart (by simp [parts])
    have hsw : s.frame parts w :=
      State.frame_trans (State.frame_mono hsv (by simp [parts])) (State.frame_mono hvw (by simp [parts]))
    exact State.frame_mono (State.frame_announceDue (State.frame_trans (State.frame_trans hsw hwx) hxy)) (by simp)

end Sys2Proof.Machine

namespace Sys2Proof.Machine

section StartingUp

/-! ## Start-up, the supply monitor apart (R194) -/

variable {s t : State}

/-- The state with another supply monitor. -/
def State.onSupply (s : State) (p : Supply) : State := { s with supply := p }

/-- Step 2 of start-up on the state alone: a load is discarded (R41). -/
def State.loadDropped (s : State) : State :=
  match s.route.state with
  | .loading | .activating => s.abandonRoute
  | .empty | .active | .retired => s

/-- The route book with a meter index. -/
def State.withIndex (s : State) (i : Option (List (Word32 × Nat))) : State := s.modRoute fun r => { r with index := i }

/-- The meter index after step 3 of start-up (R33, R41). -/
def State.startIndexed (s : State) : Option (List (Word32 × Nat)) :=
  if s.route.state = .active then some s.route.buildIndex else s.route.index

/-- Step 4 of start-up on the state alone: every HEARD stop returns (R63). -/
def State.stopsBack (s : State) : State := s.heardStops.foldl State.returnStop s

/-- Step 5 of start-up on the state alone (R125). -/
def State.recordsBack (s : State) : State := s.modStore Store.returnInFlight

/-- Step 6 of start-up on the state alone (R63). -/
def State.dwellBack (s : State) : State :=
  s.modRoute fun r => { r with segments := r.segments.map fun g => if g.state = .opened then { g with dwellElapsed := 0 } else g }

/-! Each of these leaves the supply monitor alone and does not read it. -/

@[simp] theorem State.onSupply_supply (s : State) (p : Supply) : (s.onSupply p).supply = p := rfl

@[simp] theorem State.onSupply_route (s : State) (p : Supply) : (s.onSupply p).route = s.route := rfl

theorem State.loseVolatile_onSupply (s : State) (p : Supply) : (s.onSupply p).loseVolatile = s.loseVolatile.onSupply p := rfl

theorem State.loadDropped_onSupply (s : State) (p : Supply) : (s.onSupply p).loadDropped = s.loadDropped.onSupply p := by
  unfold State.loadDropped
  rw [State.onSupply_route]
  split <;> rfl

/-- A change of state that keeps what a return reads, and with which each of its updates commutes, commutes with the return. -/
theorem State.returnStop_comm {g : State → State} (hstops : ∀ s, (g s).route.stops = s.route.stops)
    (hback : ∀ s p, (g s).returned p = s.returned p) (hset : ∀ s i new, (g s).setStatus i new none = g (s.setStatus i new none))
    (hjoin : ∀ s i, (g s).joinRevisit i = g (s.joinRevisit i)) (hlapse : ∀ s n, (g s).stepLapsed n = g (s.stepLapsed n))
    (s : State) (i : Nat) : (g s).returnStop i = g (s.returnStop i) := by
  cases hp : s.route.stops[i]? with
  | none =>
    have hg : (g s).route.stops[i]? = none := by rw [hstops, hp]
    simp only [State.returnStop, hp, hg]
  | some p =>
    have hg : (g s).route.stops[i]? = some p := by rw [hstops, hp]
    rw [State.returnStop_eq _ hg, State.returnStop_eq _ hp, hback, hset]
    dsimp only
    by_cases hm : s.returned p = .missed <;> by_cases hl : p.prior = some .recheck ∧ s.returned p ≠ .recheck
    · rw [if_pos hl, if_pos hm, if_pos hl, if_pos hm, hjoin, hlapse]
    · rw [if_neg hl, if_pos hm, if_neg hl, if_pos hm, hjoin]
    · rw [if_pos hl, if_neg hm, if_pos hl, if_neg hm, hlapse]
    · rw [if_neg hl, if_neg hm, if_neg hl, if_neg hm]

theorem State.setStatus_onSupply (s : State) (p : Supply) (i : Nat) (new : Status) :
    (s.onSupply p).setStatus i new none = (s.setStatus i new none).onSupply p := by
  simp only [State.setStatus, State.onSupply_route]
  split <;> rfl

theorem State.setStatus_withIndex (s : State) (x : Option (List (Word32 × Nat))) (i : Nat) (new : Status) :
    (s.withIndex x).setStatus i new none = (s.setStatus i new none).withIndex x := by
  have hstops : (s.withIndex x).route.stops = s.route.stops := rfl
  simp only [State.setStatus, hstops]
  split <;> rfl

theorem State.returnStop_onSupply (s : State) (p : Supply) (i : Nat) :
    (s.onSupply p).returnStop i = (s.returnStop i).onSupply p :=
  State.returnStop_comm (g := fun s => s.onSupply p) (fun _ => rfl) (fun _ _ => rfl) (fun s i x => s.setStatus_onSupply p i x)
    (fun _ _ => rfl) (fun _ _ => rfl) s i

theorem State.returnStop_withIndex (s : State) (x : Option (List (Word32 × Nat))) (i : Nat) :
    (s.withIndex x).returnStop i = (s.returnStop i).withIndex x :=
  State.returnStop_comm (g := fun s => s.withIndex x) (fun _ => rfl) (fun _ _ => rfl) (fun s i y => s.setStatus_withIndex x i y)
    (fun _ _ => rfl) (fun _ _ => rfl) s i

/-- A fold commutes with what each of its steps commutes with. -/
theorem foldl_comm {α β : Type} {f : α → β → α} {g : α → α} (h : ∀ a b, f (g a) b = g (f a b)) (l : List β) (a : α) :
    l.foldl f (g a) = g (l.foldl f a) := by
  induction l generalizing a with
  | nil => rfl
  | cons b l ih => rw [List.foldl_cons, h, ih, List.foldl_cons]

theorem State.stopsBack_onSupply (s : State) (p : Supply) : (s.onSupply p).stopsBack = s.stopsBack.onSupply p :=
  foldl_comm (f := State.returnStop) (g := fun s => s.onSupply p) (fun s i => s.returnStop_onSupply p i) s.heardStops s

theorem State.stopsBack_withIndex (s : State) (x : Option (List (Word32 × Nat))) :
    (s.withIndex x).stopsBack = s.stopsBack.withIndex x :=
  foldl_comm (f := State.returnStop) (g := fun s => s.withIndex x) (fun s i => s.returnStop_withIndex x i) s.heardStops s

theorem State.recordsBack_onSupply (s : State) (p : Supply) : (s.onSupply p).recordsBack = s.recordsBack.onSupply p := rfl

end StartingUp
end Sys2Proof.Machine

namespace Sys2Proof.Machine

section Returns

/-! ## The return of a list of stops (R45, R63) -/

variable {s t : State}

/-- A stop as its return leaves it (R45). -/
def State.back (s : State) (q : Stop) : Stop := { q with status := s.returned q, prior := none }

/-- The return of a stop steps the recheck-lapsed counter of a segment (R45). -/
def State.lapses (s : State) (n : Nat) (q : Stop) : Bool :=
  q.segment == n && q.prior == some .recheck && s.returned q != .recheck

theorem State.returnStop_none {i : Nat} (h : s.route.stops[i]? = none) : s.returnStop i = s := by
  simp only [State.returnStop, h]

theorem State.returnStop_routeState (s : State) (i : Nat) : (s.returnStop i).route.state = s.route.state := by
  cases hp : s.route.stops[i]? with
  | none => rw [State.returnStop_none hp]
  | some p => rw [s.returnStop_route hp]

/-- What a stop returns to is settled before the first return. -/
theorem State.returnStop_returned (s : State) (i : Nat) (q : Stop) : (s.returnStop i).returned q = s.returned q := by
  simp only [State.returned, State.returnStop_segmentState, State.returnStop_routeState]

theorem State.returnStop_stops (s : State) (i j : Nat) :
    (s.returnStop i).route.stops[j]? = if j = i then (s.route.stops[j]?).map s.back else s.route.stops[j]? := by
  cases hp : s.route.stops[i]? with
  | none =>
    rw [State.returnStop_none hp]
    split
    · next h => rw [h, hp]; rfl
    · rfl
  | some p =>
    have hi := (List.getElem?_eq_some_iff.1 hp).1
    rw [s.returnStop_route hp]
    by_cases hj : j = i
    · rw [if_pos hj, hj, hp, List.getElem?_set_self hi]
      rfl
    · rw [if_neg hj, List.getElem?_set_ne (Ne.symm hj)]

/-- The stops after a list of returns. -/
theorem foldl_returnStop_stops {l : List Nat} (hl : l.Nodup) (s : State) (j : Nat) :
    (l.foldl State.returnStop s).route.stops[j]? = if j ∈ l then (s.route.stops[j]?).map s.back else s.route.stops[j]? := by
  induction l generalizing s with
  | nil => simp
  | cons i l ih =>
    obtain ⟨hi, hl⟩ := List.nodup_cons.1 hl
    have hback : (s.returnStop i).back = s.back := by
      funext q
      rw [State.back, State.back, s.returnStop_returned]
    rw [List.foldl_cons, ih hl, hback, s.returnStop_stops]
    by_cases hj : j = i
    · subst hj
      simp [hi]
    · simp [hj]

/-- One segment after a return: its counts follow the stop, and a recheck may lapse. -/
theorem State.returnStop_segment {n : Nat} {g : Segment} (s : State) (i : Nat) (hg : s.route.segments[n]? = some g) :
    ∃ c, (s.returnStop i).route.segments[n]? = some { g with
      counts := c, lapsed := if (s.route.stops[i]?).any (s.lapses n) then satStep 65535 g.lapsed else g.lapsed } := by
  cases hp : s.route.stops[i]? with
  | none => exact ⟨g.counts, by rw [State.returnStop_none hp, hg]; rfl⟩
  | some p =>
    rw [s.returnStop_route hp]
    simp only [List.getElem?_modify, hg, Option.any_some, State.lapses]
    by_cases hn : p.segment = n
    · exact ⟨(g.counts.mod (· - 1) p.status).mod (· + 1) (s.returned p), by simp [hn]⟩
    · exact ⟨g.counts, by simp [hn]⟩

theorem repeat_step {α : Type} (f : α → α) (k : Nat) (a : α) : Nat.repeat f k (f a) = Nat.repeat f (k + 1) a := by
  induction k with
  | zero => rfl
  | succ k ih => exact congrArg f ih

/-- One segment after a list of returns. -/
theorem foldl_returnStop_segment {n : Nat} {l : List Nat} (hl : l.Nodup) (s : State) {g : Segment}
    (hg : s.route.segments[n]? = some g) :
    ∃ c, (l.foldl State.returnStop s).route.segments[n]? = some { g with
      counts := c
      lapsed := Nat.repeat (satStep 65535) (l.countP fun i => (s.route.stops[i]?).any (s.lapses n)) g.lapsed } := by
  induction l generalizing s g with
  | nil => exact ⟨g.counts, hg⟩
  | cons i l ih =>
    obtain ⟨hi, hl⟩ := List.nodup_cons.1 hl
    obtain ⟨c, hc⟩ := s.returnStop_segment i hg
    obtain ⟨d, hd⟩ := ih hl (s.returnStop i) hc
    have hcount : (l.countP fun j => ((s.returnStop i).route.stops[j]?).any ((s.returnStop i).lapses n)) =
        l.countP fun j => (s.route.stops[j]?).any (s.lapses n) := by
      refine List.countP_congr fun j hj => ?_
      have hne : j ≠ i := fun h => hi (h ▸ hj)
      have hlapses : (s.returnStop i).lapses n = s.lapses n := by
        funext q
        rw [State.lapses, State.lapses, s.returnStop_returned]
      rw [s.returnStop_stops, if_neg hne, hlapses]
    refine ⟨d, ?_⟩
    rw [List.foldl_cons, hd, hcount, List.countP_cons]
    split
    · rw [repeat_step]
    · rfl

theorem State.returnStop_trackerEq (s : State) (i : Nat) : (s.returnStop i).tracker = { s.tracker with
    revisit := s.tracker.revisit ++
      if (s.route.stops[i]?).any (s.returned · == .missed) ∧ i ∉ s.tracker.revisit then [i] else [] } := by
  cases hp : s.route.stops[i]? with
  | none => rw [State.returnStop_none hp]; simp
  | some p =>
    rw [s.returnStop_tracker hp]
    simp only [Option.any_some, beq_iff_eq]
    split <;> simp

/-- The tracker after a list of returns: the stops that return to MISSED join the revisit list in turn (R60). -/
theorem foldl_returnStop_tracker {l : List Nat} (hl : l.Nodup) (s : State) :
    (l.foldl State.returnStop s).tracker = { s.tracker with
      revisit := s.tracker.revisit ++ l.filter fun i =>
        (s.route.stops[i]?).any (s.returned · == .missed) && !s.tracker.revisit.contains i } := by
  induction l generalizing s with
  | nil => simp
  | cons i l ih =>
    obtain ⟨hi, hl⟩ := List.nodup_cons.1 hl
    have hfilter : (l.filter fun j => ((s.returnStop i).route.stops[j]?).any ((s.returnStop i).returned · == .missed) &&
        !(s.returnStop i).tracker.revisit.contains j) =
        l.filter fun j => (s.route.stops[j]?).any (s.returned · == .missed) && !s.tracker.revisit.contains j := by
      refine List.filter_congr fun j hj => ?_
      have hne : j ≠ i := fun h => hi (h ▸ hj)
      have hjoin : (s.returnStop i).tracker.revisit.contains j = s.tracker.revisit.contains j := by
        rw [s.returnStop_trackerEq]
        split <;> simp [hne]
      rw [s.returnStop_stops, if_neg hne, hjoin]
      simp only [s.returnStop_returned]
    rw [List.foldl_cons, ih hl, hfilter, s.returnStop_trackerEq, List.filter_cons]
    by_cases hm : (s.route.stops[i]?).any (s.returned · == .missed) = true <;> by_cases hr : i ∈ s.tracker.revisit <;>
      simp [hm, hr]

/-- Of the route book a list of returns changes stops and segments alone. -/
theorem foldl_returnStop_route (l : List Nat) (s : State) : (l.foldl State.returnStop s).route = { s.route with
    stops := (l.foldl State.returnStop s).route.stops, segments := (l.foldl State.returnStop s).route.segments } := by
  induction l generalizing s with
  | nil => rfl
  | cons i l ih =>
    rw [List.foldl_cons, ih]
    cases hp : s.route.stops[i]? with
    | none => rw [State.returnStop_none hp]
    | some p => rw [s.returnStop_route hp]

end Returns
end Sys2Proof.Machine

namespace Sys2Proof.Machine

section HeardStops

/-! ## The stops found HEARD, and their return (R63) -/

variable {s t : State}

theorem State.mem_heardStops (s : State) (i : Nat) :
    i ∈ s.heardStops ↔ ∃ q, s.route.stops[i]? = some q ∧ q.status = .heard := by
  simp only [State.heardStops, Route.stopIndexes, List.mem_filter, List.mem_range, Option.any_eq_true, beq_iff_eq]
  refine and_iff_right_of_imp ?_
  rintro ⟨q, hq, _⟩
  exact (List.getElem?_eq_some_iff.1 hq).1

theorem State.heardStops_nodup (s : State) : s.heardStops.Nodup := List.nodup_range.filter _

/-- The HEARD stops with their indexes. -/
def Route.heard (r : Route) : List (Stop × Nat) := r.stops.zipIdx.filter fun x => x.1.status == .heard

theorem State.heardStops_eq (s : State) : s.heardStops = s.route.heard.map (·.2) := by
  have hrange : s.route.stopIndexes = s.route.stops.zipIdx.map (·.2) := by
    rw [List.zipIdx_map_snd, Route.stopIndexes, List.range_eq_range']
  rw [State.heardStops, hrange, List.filter_map, Route.heard]
  refine congrArg (List.map Prod.snd) (List.filter_congr fun x hx => ?_)
  rw [Function.comp_apply, List.mem_zipIdx_iff_getElem?.1 hx]
  rfl

theorem State.stopsBack_none (h : s.heardStops = []) : s.stopsBack = s := by
  rw [State.stopsBack, h]
  rfl

theorem State.stopsBack_stops (s : State) :
    s.stopsBack.route.stops = s.route.stops.map fun q => if q.status = .heard then s.back q else q := by
  refine List.ext_getElem? fun j => ?_
  rw [State.stopsBack, foldl_returnStop_stops s.heardStops_nodup, List.getElem?_map]
  cases hq : s.route.stops[j]? with
  | none => simp
  | some q =>
    have hmem : j ∈ s.heardStops ↔ q.status = .heard := by
      rw [s.mem_heardStops, hq]
      simp
    by_cases hh : q.status = .heard <;> simp [hmem, hh]

/-- After the return no stop is HEARD. -/
theorem State.stopsBack_heardStops (s : State) : s.stopsBack.heardStops = [] := by
  refine List.eq_nil_iff_forall_not_mem.2 fun i hi => ?_
  obtain ⟨q, hq, hheard⟩ := (State.mem_heardStops _ _).1 hi
  rw [s.stopsBack_stops, List.getElem?_map, Option.map_eq_some_iff] at hq
  obtain ⟨p, _, rfl⟩ := hq
  split at hheard
  · exact s.returned_ne_heard p hheard
  · contradiction

theorem State.stopsBack_route (s : State) : s.stopsBack.route = { s.route with
    stops := s.stopsBack.route.stops, segments := s.stopsBack.route.segments } :=
  foldl_returnStop_route s.heardStops s

theorem State.returnStop_framed (s : State) (i : Nat) : s.frame [.route, .tracker] (s.returnStop i) := by
  intro b hb
  cases b <;> simp_all [State.agree]

theorem State.stopsBack_frame (s : State) : s.frame [.route, .tracker] s.stopsBack := by
  have hfold (l : List Nat) : ∀ s : State, s.frame [.route, .tracker] (l.foldl State.returnStop s) := by
    induction l with
    | nil => exact fun s b _ => by cases b <;> rfl
    | cons i l ih => exact fun s => State.frame_trans (s.returnStop_framed i) (ih _)
  exact hfold s.heardStops s

end HeardStops

section Losing

/-! ## What a stop of activity takes away (R189) -/

variable {s t : State}

theorem State.eq_of_agree (h : ∀ b, s.agree t b) : t = s := by
  cases s
  cases t
  simp only [State.mk.injEq]
  exact ⟨h .pending, h .supply, h .channels, h .capture, h .route, h .tracker, h .check, h .store, h .tx, h .dock, h .clock,
    h .van, h .free⟩

/-- Everything that a stop of activity takes away is away already. -/
def State.lost (s : State) : Prop := s.loseVolatile = s

/-- The state with another route book, tracker and record store. -/
def State.withBook (s : State) (r : Route) (t : Tracker) (k : Store) : State := { s with route := r, tracker := t, store := k }

theorem State.lost_withBook (h : s.lost) (r : Route) (t : Tracker) (k : Store) :
    (s.withBook r t k).loseVolatile = s.withBook r.retained t k.retained := by
  have hs : (s.withBook r t k).loseVolatile = s.loseVolatile.withBook r.retained t k.retained := rfl
  rw [hs, h]

theorem State.lost.withBook (h : s.lost) {r : Route} {t : Tracker} {k : Store} (hr : r.retained = r) (hk : k.retained = k) :
    (s.withBook r t k).lost := by
  rw [State.lost, State.lost_withBook h, hr, hk]

theorem Route.retained_retained (r : Route) : r.retained.retained = r.retained := by
  simp [Route.retained]

theorem State.loseVolatile_lost (s : State) : s.loseVolatile.lost := by
  have hchannels (k : ChannelNo) : s.loseVolatile.channels[k] = .initial s.channels[k].entry s.channels[k].cdPin := by
    simp [State.loseVolatile]
  have hmask (k : Fin 13) : s.loseVolatile.van.notices[k].masked = s.van.notices[k].masked := by
    simp [State.loseVolatile, Van.initial, Notice.clear]
  have hc : s.loseVolatile.loseVolatile.channels = s.loseVolatile.channels :=
    congrArg Vector.ofFn (funext fun k => by rw [hchannels]; rfl)
  have hv : s.loseVolatile.loseVolatile.van = s.loseVolatile.van :=
    congrArg (fun f => Van.initial (Vector.ofFn f) s.van.attnMode) (funext hmask)
  have hr : s.loseVolatile.loseVolatile.route = s.loseVolatile.route := s.route.retained_retained
  refine State.eq_of_agree fun b => ?_
  cases b
  case channels => exact hc
  case van => exact hv
  case route => exact hr
  all_goals rfl

/-- The channels of a cold start. -/
theorem State.coldStart_channels (s : State) (k : ChannelNo) :
    s.coldStart.channels[k] = .initial (.default k.val) s.channels[k].cdPin := by
  have h : s.coldStart.channels = Vector.ofFn fun n : ChannelNo => Channel.initial (.default n.val) s.channels[n].cdPin := rfl
  rw [h]
  exact ofFn_channel _ k

theorem State.coldStart_lost (h : s.lost) : s.coldStart.lost := by
  have hchannels : s.coldStart.loseVolatile.channels = s.coldStart.channels := by
    refine (congrArg Vector.ofFn (funext fun k : ChannelNo => ?_) :
      _ = Vector.ofFn fun k : ChannelNo => Channel.initial (.default k.val) s.channels[k].cdPin)
    rw [s.coldStart_channels]
    rfl
  have hmasks : (Vector.ofFn fun k : Fin 13 => (s.coldStart.van.notices[k]).masked) = Vector.replicate 13 false := by
    ext k hk
    simp [State.coldStart, State.modVan, State.modSupply, Van.initial, Notice.clear]
  have hvan : s.coldStart.loseVolatile.van = s.coldStart.van := congrArg (Van.initial · .level) hmasks
  refine State.eq_of_agree fun b => ?_
  have hb : s.agree s.loseVolatile b := by rw [h]; cases b <;> rfl
  cases b
  case channels => exact hchannels
  case van => exact hvan
  case dock =>
    have hdock : Dock.initial s.dock.settings s.dock.dsdPin = s.dock := hb
    exact congrArg (fun d : Dock => { d with settings := DockSettings.default }) hdock
  case check => exact hb
  case capture => exact hb
  case tx => exact hb
  case clock => exact hb
  all_goals rfl

end Losing
end Sys2Proof.Machine

namespace Sys2Proof.Machine

section Ordering

/-! ## The state that start-up puts in order, step by step (R194)

The book between two steps of start-up is a lost state with a meter index; a reset takes the index and the counts away. -/

variable {s t b : State}

theorem State.lost_route (h : s.lost) : s.route.retained = s.route := congrArg State.route h

theorem State.lost_dwell (h : s.lost) : ∀ g ∈ s.route.segments, g.dwellElapsed = 0 := by
  have hseg : s.route.segments.map (fun g => { g with dwellElapsed := 0 }) = s.route.segments :=
    congrArg Route.segments (State.lost_route h)
  intro g hg
  rw [← hseg] at hg
  obtain ⟨q, _, rfl⟩ := List.mem_map.1 hg
  rfl

theorem map_dwell_same {l : List Segment} {f : Segment → Segment} (hf : ∀ g, f g = g ∨ f g = { g with dwellElapsed := 0 })
    (h : ∀ g ∈ l, g.dwellElapsed = 0) : l.map f = l := by
  refine List.map_congr_left (fun g hg => ?_) |>.trans l.map_id
  rcases hf g with heq | heq
  · exact heq
  · rw [heq, ← h g hg]
    rfl

theorem State.loadDropped_lost (h : s.lost) : s.loadDropped.lost := by
  unfold State.loadDropped
  split
  · exact h.withBook (t := .empty) (r := s.route.abandon) (k := s.store) rfl (congrArg State.store h)
  · exact h.withBook (t := .empty) (r := s.route.abandon) (k := s.store) rfl (congrArg State.store h)
  all_goals exact h

theorem State.loadDropped_same (h : s.route.state ≠ .loading ∧ s.route.state ≠ .activating) : s.loadDropped = s := by
  unfold State.loadDropped
  split
  · next hs => exact absurd hs h.1
  · next hs => exact absurd hs h.2
  all_goals rfl

theorem State.loadDropped_state (s : State) :
    s.loadDropped.route.state ≠ .loading ∧ s.loadDropped.route.state ≠ .activating := by
  unfold State.loadDropped
  split
  · exact ⟨nofun, nofun⟩
  · exact ⟨nofun, nofun⟩
  all_goals simp [*]

theorem State.returnStop_dwell (s : State) (i : Nat) :
    (s.returnStop i).route.segments.map (·.dwellElapsed) = s.route.segments.map (·.dwellElapsed) := by
  cases hp : s.route.stops[i]? with
  | none => rw [State.returnStop_none hp]
  | some p =>
    rw [s.returnStop_route hp]
    exact map_modify_eq (fun g : Segment => g.dwellElapsed) _ (by exact fun _ => rfl) _ _

theorem State.stopsBack_dwell (s : State) (h : ∀ g ∈ s.route.segments, g.dwellElapsed = 0) :
    ∀ g ∈ s.stopsBack.route.segments, g.dwellElapsed = 0 := by
  have hmap : s.stopsBack.route.segments.map (·.dwellElapsed) = s.route.segments.map (·.dwellElapsed) :=
    foldl_keeps (fun s : State => s.route.segments.map (·.dwellElapsed)) State.returnStop
      (fun s i => s.returnStop_dwell i) s.heardStops s
  intro g hg
  have hmem : g.dwellElapsed ∈ s.route.segments.map (·.dwellElapsed) := hmap ▸ List.mem_map_of_mem hg
  obtain ⟨q, hq, heq⟩ := List.mem_map.1 hmem
  rw [← heq, h q hq]

theorem State.stopsBack_lost (h : s.lost) : s.stopsBack.lost := by
  have hsame : s.stopsBack = s.withBook s.stopsBack.route s.stopsBack.tracker s.store := by
    refine State.eq_of_agree fun b => ?_
    have hb := s.stopsBack_frame b
    cases b
    case route => rfl
    case tracker => rfl
    all_goals exact hb (by decide)
  have hroute : s.stopsBack.route.retained = s.stopsBack.route := by
    have hr := State.lost_route h
    have hsegments : s.stopsBack.route.segments.map (fun g => { g with dwellElapsed := 0 }) = s.stopsBack.route.segments :=
      map_dwell_same (fun _ => .inr rfl) (s.stopsBack_dwell (State.lost_dwell h))
    rw [Route.retained, hsegments, s.stopsBack_route]
    rw [← hr]
    rfl
  rw [hsame]
  exact h.withBook hroute (congrArg State.store h)

theorem State.recordsBack_lost (h : s.lost) : s.recordsBack.lost :=
  h.withBook (State.lost_route h) (congrArg (fun u => u.store.returnInFlight) h)

theorem State.dwellBack_same (h : ∀ g ∈ s.route.segments, g.dwellElapsed = 0) : s.dwellBack = s := by
  have hsegments := map_dwell_same (l := s.route.segments)
    (f := fun g => if g.state = .opened then { g with dwellElapsed := 0 } else g) (fun g => by
      split
      · exact .inr rfl
      · exact .inl rfl) h
  exact congrArg (fun l => s.modRoute fun r => { r with segments := l }) hsegments

/-- The book after a step of start-up, but for the meter index. -/
def State.orderedAt (b : State) : StartStep → State
  | .marker => b
  | .load | .index => b.loadDropped
  | .stops => b.loadDropped.stopsBack
  | .records | .dwell | .hello => b.loadDropped.stopsBack.recordsBack

/-- The meter index after a step of start-up. -/
def State.indexAt (b : State) : StartStep → Option (List (Word32 × Nat))
  | .marker => b.route.index
  | .load => b.loadDropped.route.index
  | .index | .stops | .records | .dwell | .hello => b.loadDropped.startIndexed

theorem State.orderedAt_lost (h : b.lost) (k : StartStep) : (b.orderedAt k).lost := by
  have hload := State.loadDropped_lost h
  have hstops := State.stopsBack_lost hload
  have hrecords := State.recordsBack_lost hstops
  cases k <;> assumption

theorem State.stopsBack_state (s : State) : s.stopsBack.route.state = s.route.state := by
  rw [s.stopsBack_route]

theorem State.loadDropped_stopsBack (h : s.loadDropped = s) : s.stopsBack.loadDropped = s.stopsBack :=
  State.loadDropped_same (by rw [s.stopsBack_state, ← h]; exact s.loadDropped_state)

theorem State.loadDropped_recordsBack (h : s.loadDropped = s) : s.recordsBack.loadDropped = s.recordsBack :=
  State.loadDropped_same (by
    have hs := s.loadDropped_state
    rw [h] at hs
    exact hs)

theorem State.loadDropped_twice (s : State) : s.loadDropped.loadDropped = s.loadDropped :=
  State.loadDropped_same s.loadDropped_state

theorem State.stopsBack_twice (s : State) : s.stopsBack.stopsBack = s.stopsBack :=
  State.stopsBack_none s.stopsBack_heardStops

theorem State.recordsBack_twice (s : State) : s.recordsBack.recordsBack = s.recordsBack := by
  have hrecords : s.store.returnInFlight.returnInFlight = s.store.returnInFlight := by
    simp only [Store.returnInFlight, List.map_map]
    refine congrArg (fun l => { s.store with records := l }) (List.map_congr_left fun r _ => ?_)
    by_cases h : r.upload = .inFlight <;> simp [h]
  exact congrArg (fun k => s.modStore fun _ => k) hrecords

/-- The meter index pairs the meter IDs of the stops with their places (R33). -/
theorem Route.buildIndex_eq (r : Route) : r.buildIndex = (r.stops.map Stop.meterId).zipIdx := by
  refine List.ext_getElem? fun j => ?_
  simp only [Route.buildIndex, List.getElem?_mapIdx, List.getElem?_zipIdx, List.getElem?_map, Option.map_map, Nat.zero_add]
  rfl

theorem State.stopsBack_meterIds (s : State) :
    s.stopsBack.route.stops.map Stop.meterId = s.route.stops.map Stop.meterId := by
  rw [s.stopsBack_stops, List.map_map]
  refine List.map_congr_left fun q _ => ?_
  by_cases h : q.status = .heard
  · rw [Function.comp_apply, if_pos h]
    rfl
  · rw [Function.comp_apply, if_neg h]

theorem State.startIndexed_stopsBack (s : State) : s.stopsBack.startIndexed = s.startIndexed := by
  have hbuild : s.stopsBack.route.buildIndex = s.route.buildIndex := by
    rw [Route.buildIndex_eq, s.stopsBack_meterIds, Route.buildIndex_eq]
  have hindex : s.stopsBack.route.index = s.route.index := by rw [s.stopsBack_route]
  rw [State.startIndexed, s.stopsBack_state, hbuild, hindex]
  rfl

/-- Start-up begun again after some of its steps comes to the same book (R193). -/
theorem State.orderedAt_orderedAt (b : State) (k : StartStep) : (b.orderedAt k).orderedAt .dwell = b.orderedAt .dwell := by
  have hload := b.loadDropped_twice
  have hstops := State.loadDropped_stopsBack hload
  have hrecords := State.loadDropped_recordsBack hstops
  have hnone : b.loadDropped.stopsBack.recordsBack.stopsBack = b.loadDropped.stopsBack.recordsBack :=
    State.stopsBack_none b.loadDropped.stopsBack_heardStops
  cases k <;> simp only [State.orderedAt, hload, hstops, hrecords, hnone, State.stopsBack_twice, State.recordsBack_twice]

theorem State.indexAt_orderedAt (b : State) (k : StartStep) : (b.orderedAt k).indexAt .dwell = b.indexAt .dwell := by
  have hload := b.loadDropped_twice
  have hstops := State.loadDropped_stopsBack hload
  have hrecords := State.loadDropped_recordsBack hstops
  have hsame (s : State) : s.recordsBack.startIndexed = s.startIndexed := rfl
  cases k <;> simp only [State.orderedAt, State.indexAt, hload, hstops, hrecords, hsame, State.startIndexed_stopsBack]

end Ordering
end Sys2Proof.Machine

namespace Sys2Proof.Machine

section Stepping

/-! ## The steps of start-up (R194) -/

variable {s t b : State}

/-- The book in which start-up begins: what was kept, or every default where the marker is invalid (R195). -/
def State.beginning (s : State) : State :=
  if s.supply.markerValid then s.loseVolatile else s.loseVolatile.coldStart.onSupply s.supply

/-- How far start-up has come after a step. -/
def State.progressAt (b : State) (cause : ResetCause) : StartStep → StartProgress
  | .marker => ⟨.load, cause, 0, 0⟩
  | .load => ⟨.index, cause, 0, 0⟩
  | .index => ⟨.stops, cause, 0, 0⟩
  | .stops => ⟨.records, cause, b.loadDropped.heardStops.length, 0⟩
  | .records => ⟨.dwell, cause, b.loadDropped.heardStops.length, b.store.inFlightRecords.length⟩
  | .dwell | .hello => ⟨.hello, cause, b.loadDropped.heardStops.length, b.store.inFlightRecords.length⟩

/-- The supply monitor with the start-up under way. -/
def Supply.under (p : Supply) (x : StartProgress) : Supply := { p with markerValid := true, starting := some x }

/-- The state after a step of start-up. -/
def State.reached (b : State) (p : Supply) (cause : ResetCause) (k : StartStep) : State :=
  ((b.orderedAt k).withIndex (b.indexAt k)).onSupply (p.under (b.progressAt cause k))

variable (p : Supply) (cause : ResetCause)

theorem State.loadDropped_store (s : State) : s.loadDropped.store = s.store := by
  unfold State.loadDropped
  split <;> rfl

theorem State.startStep_marker (s : State) :
    s.startStep .marker = s.beginning.reached s.supply s.supply.resetCause .marker := by
  have hstep : s.startStep .marker = (if s.supply.markerValid then s.loseVolatile else s.loseVolatile.coldStart).noteStep .load
      fun _ => ⟨.load, s.supply.resetCause, 0, 0⟩ := rfl
  rw [hstep, State.beginning]
  cases h : s.supply.markerValid with
  | true =>
    have hsupply : s.supply = { s.supply with markerValid := true } := by rw [← h]
    refine congrArg (fun q : Supply => s.loseVolatile.onSupply { q with starting := _ }) hsupply
  | false => rfl

theorem State.startStep_load (b : State) : (b.reached p cause .marker).startStep .load = b.reached p cause .load := by
  have hstep (s : State) : s.startStep .load = s.loadDropped.noteStep .index id := rfl
  rw [hstep]
  exact congrArg (State.noteStep · .index id) (b.loadDropped_onSupply _)

theorem State.startStep_index (b : State) : (b.reached p cause .load).startStep .index = b.reached p cause .index := by
  have hstep (s : State) : s.startStep .index = (s.withIndex s.startIndexed).noteStep .stops id := by
    by_cases h : s.route.state = .active
    · simp only [State.startStep, State.startIndex, State.startIndexed, if_pos h]
      rfl
    · simp only [State.startStep, State.startIndex, State.startIndexed, if_neg h]
      rfl
  rw [hstep]
  rfl

theorem State.startStep_stops (b : State) : (b.reached p cause .index).startStep .stops = b.reached p cause .stops := by
  have hstep (s : State) : s.startStep .stops =
      s.stopsBack.noteStep .records fun x => { x with stops := s.heardStops.length } := rfl
  rw [hstep, State.reached, State.stopsBack_onSupply, State.stopsBack_withIndex]
  rfl

theorem State.startStep_records (b : State) : (b.reached p cause .stops).startStep .records = b.reached p cause .records := by
  have hstep (s : State) : s.startStep .records =
      s.recordsBack.noteStep .dwell fun x => { x with records := s.store.inFlightRecords.length } := rfl
  have hstore : b.loadDropped.stopsBack.store = b.store :=
    (b.loadDropped.stopsBack_frame .store (by decide)).trans b.loadDropped_store
  have hcount : (b.reached p cause .stops).store = b.store := hstore
  rw [hstep, hcount]
  rfl

theorem State.startStep_dwell (h : b.lost) : (b.reached p cause .records).startStep .dwell = b.reached p cause .dwell := by
  have hstep (s : State) : s.startStep .dwell = s.dwellBack.noteStep .hello id := rfl
  have hsame : (b.reached p cause .records).dwellBack = b.reached p cause .records :=
    State.dwellBack_same fun g hg => State.lost_dwell (State.orderedAt_lost h .records) g hg
  rw [hstep, hsame]
  rfl

/-- The steps of start-up before HELLO. -/
def stepsDone : StartStep → List StartStep
  | .marker => [.marker]
  | .load => [.marker, .load]
  | .index => [.marker, .load, .index]
  | .stops => [.marker, .load, .index, .stops]
  | .records => [.marker, .load, .index, .stops, .records]
  | .dwell | .hello => [.marker, .load, .index, .stops, .records, .dwell]

/-- The steps of start-up that follow a step. -/
def stepsLeft : StartStep → List StartStep
  | .marker => [.load, .index, .stops, .records, .dwell, .hello]
  | .load => [.index, .stops, .records, .dwell, .hello]
  | .index => [.stops, .records, .dwell, .hello]
  | .stops => [.records, .dwell, .hello]
  | .records => [.dwell, .hello]
  | .dwell | .hello => [.hello]

theorem Supply.stepsUpTo_none {q : Supply} (h : q.starting = none) {k : StartStep} (hk : k ≠ .hello) :
    q.stepsUpTo k = stepsDone k := by
  have hnext : q.progress.next = .marker := by rw [Supply.progress, h]; rfl
  unfold Supply.stepsUpTo
  rw [hnext]
  cases k
  case hello => contradiction
  all_goals rfl

theorem Supply.stepsUpTo_under (b : State) (k : StartStep) :
    (p.under (b.progressAt cause k)).stepsUpTo .hello = stepsLeft k := by
  cases k <;> rfl

theorem State.lost.onSupply (h : s.lost) (q : Supply) : (s.onSupply q).lost := by
  have hs : s.loseVolatile = s := h
  rw [State.lost, State.loseVolatile_onSupply, hs]

theorem State.beginning_lost (s : State) : s.beginning.lost := by
  unfold State.beginning
  split
  · exact s.loseVolatile_lost
  · have h := State.coldStart_lost s.loseVolatile_lost
    exact h.onSupply s.supply

theorem foldl_done (s : State) {k : StartStep} (hk : k ≠ .hello) :
    (stepsDone k).foldl State.startStep s = s.beginning.reached s.supply s.supply.resetCause k := by
  have hlost := s.beginning_lost
  cases k
  case hello => contradiction
  all_goals simp only [stepsDone, List.foldl_cons, List.foldl_nil, State.startStep_marker, State.startStep_load,
    State.startStep_index, State.startStep_stops, State.startStep_records, State.startStep_dwell _ _ hlost]

theorem foldl_left (h : b.lost) (k : StartStep) :
    (stepsLeft k).foldl State.startStep (b.reached p cause k) = (b.reached p cause .dwell).startHello := by
  cases k <;> simp only [stepsLeft, List.foldl_cons, List.foldl_nil, State.startStep_load,
    State.startStep_index, State.startStep_stops, State.startStep_records, State.startStep_dwell _ _ h] <;> rfl

/-! ## The row START_UP -/

theorem exec_startUp (h : s.supply.monitor = .start) (k : StartStep) :
    exec (.startUp k) s = .next ((s.supply.stepsUpTo k).foldl State.startStep s).announceDue := by
  change execStartUp s k = _
  rw [execStartUp, h]
  rfl

theorem State.lost_notice (h : s.lost) (c : Cause) : s.notice c = .clear (s.notice c).masked := by
  have hs : s.loseVolatile = s := h
  have hn : s.loseVolatile.notice c = .clear (s.notice c).masked := by
    simp [State.notice, State.loseVolatile, Van.initial]
  rwa [hs] at hn

theorem State.settled_of_lost (h : b.lost) (k : StartStep) : (b.reached p cause k).settled := by
  refine .inl fun c => ?_
  have hc := State.lost_notice (State.orderedAt_lost h k) c
  have hn : (b.reached p cause k).notice c = (b.orderedAt k).notice c := rfl
  rw [hn, hc]
  rfl

/-- Start-up as far as a step before HELLO. -/
theorem exec_startUp_part (hm : s.supply.monitor = .start) (hs : s.supply.starting = none) {k : StartStep} (hk : k ≠ .hello) :
    exec (.startUp k) s = .next (s.beginning.reached s.supply s.supply.resetCause k) := by
  rw [exec_startUp hm, Supply.stepsUpTo_none hs hk, foldl_done s hk,
    State.announceDue_settled _ (State.settled_of_lost _ _ s.beginning_lost k)]

/-- The rest of a start-up taken in parts. -/
theorem exec_startUp_rest (hm : p.monitor = .start) (h : b.lost) (k : StartStep) :
    exec (.startUp .hello) (b.reached p cause k) = .next (b.reached p cause .dwell).startHello.announceDue := by
  have hm' : (b.reached p cause k).supply.monitor = .start := hm
  have hsteps : (b.reached p cause k).supply.stepsUpTo .hello = stepsLeft k := Supply.stepsUpTo_under p cause b k
  rw [exec_startUp hm', hsteps, foldl_left p cause h]

/-- A whole start-up. -/
theorem exec_startUp_whole (hm : s.supply.monitor = .start) (hs : s.supply.starting = none) :
    exec (.startUp .hello) s =
      .next (s.beginning.reached s.supply s.supply.resetCause .dwell).startHello.announceDue := by
  have hsteps : s.supply.stepsUpTo .hello = stepsDone .dwell ++ [.hello] := by
    have hnext : s.supply.progress.next = .marker := by rw [Supply.progress, hs]; rfl
    unfold Supply.stepsUpTo
    rw [hnext]
    rfl
  rw [exec_startUp hm, hsteps, List.foldl_append, foldl_done s (by decide)]
  rfl

/-- A reset in the midst of start-up, and the start-up begun again (R193). -/
theorem exec_reset_reached (hm : p.monitor = .start) (h : b.lost) (k : StartStep) :
    ∃ held q, exec .resetNAssert (b.reached p cause k) = .next held ∧
      exec .resetNRelease held = .next ((b.orderedAt k).onSupply q) ∧ q.monitor = .start ∧ q.starting = none ∧
      q.markerValid = true ∧ q.lastReset = .pin := by
  have hlost : (b.orderedAt k).loseVolatile = b.orderedAt k := State.orderedAt_lost h k
  let q : Supply := { p.under (b.progressAt cause k) with
    monitor := .held, powerLost := false, lastReset := .pin, resetAsserted := true, goodCount := none, starting := none }
  have hassert : exec .resetNAssert (b.reached p cause k) = .next ((b.orderedAt k).onSupply q) := by
    have hm' : ((b.reached p cause k).modSupply fun p => { p with resetAsserted := true }).supply.monitor = .start := hm
    have hstop : ((b.reached p cause k).modSupply fun p => { p with resetAsserted := true }).stopActivity .held .pin =
        (b.orderedAt k).loseVolatile.onSupply q := rfl
    change execResetNAssert (b.reached p cause k) = _
    simp only [execResetNAssert, hm', hstop, hlost]
  exact ⟨_, _, hassert, resetNRelease_held rfl, rfl, rfl, rfl, rfl⟩

end Stepping
end Sys2Proof.Machine

namespace Sys2Proof.Machine

section Hello

/-! ## The last step of start-up (R196) -/

variable {s t b : State}

/-- The HELLO that the last step of start-up queues. -/
def State.startMessage (s : State) : Message :=
  s.hello s.supply.progress.cause s.supply.progress.stops s.supply.progress.records

theorem State.startHello_eq (s : State) : s.startHello =
    (((s.queueMessage s.startMessage).modSupply fun p =>
      { p with monitor := .run, powerLost := false, starting := none }).beginDock).refillScan := rfl

theorem State.frame_beginDock (s : State) : s.frame [.dock, .van] s.beginDock := by
  intro b hb
  unfold State.beginDock
  split <;> cases b <;> simp_all [State.agree]

theorem State.frame_startHello (s : State) : s.frame [.supply, .tx, .dock, .van] s.startHello := by
  intro b hb
  have hdock := State.frame_beginDock ((s.queueMessage s.startMessage).modSupply fun p =>
    { p with monitor := .run, powerLost := false, starting := none }) b fun h => hb (by simp_all)
  rw [State.startHello_eq]
  cases b <;> simp_all [State.agree]

theorem State.startHello_supply (s : State) :
    s.startHello.supply = { s.supply with monitor := .run, powerLost := false, starting := none } := by
  have hscan (v : State) : v.refillScan.supply = v.supply := by simp
  rw [State.startHello_eq, hscan]
  exact State.frame_beginDock _ .supply (by decide)

theorem State.beginDock_dock (s : State) :
    s.beginDock.dock = if s.dock.signalPresent then { s.dock with link := .align } else s.dock := by
  unfold State.beginDock
  split <;> rfl

theorem State.beginDock_absent (h : s.dock.signalPresent = false) : s.beginDock = s := by
  rw [State.beginDock, h]
  rfl

theorem State.startHello_dock (s : State) :
    s.startHello.dock = if s.dock.signalPresent then { s.dock with link := .align } else s.dock := by
  have hscan (v : State) : v.refillScan.dock = v.dock := by simp
  rw [State.startHello_eq, hscan, State.beginDock_dock]
  rfl

/-- The refill scan of start-up reads the state that start-up leaves (R128). -/
theorem State.startHello_tx (s : State) : s.startHello.tx = s.refillScan.tx := by
  have hdock := State.frame_beginDock ((s.queueMessage s.startMessage).modSupply fun p =>
    { p with monitor := .run, powerLost := false, starting := none })
  rw [State.startHello_eq]
  exact State.refillScan_tx_congr (hdock .route (by decide)) (hdock .tracker (by decide)) (hdock .tx (by decide))

/-- HELLO joins the outbound queue, and nothing but notices follows it. -/
theorem State.startHello_onlyNotices (s : State) : (s.queueMessage s.startMessage).onlyNotices s.startHello.announceDue := by
  have hdock (v : State) : v.onlyNotices v.beginDock := by
    unfold State.beginDock
    split
    · exact State.onlyNotices_occur _ _ _
    · exact State.onlyNotices_of_van rfl
  have hscan (v : State) : v.onlyNotices v.refillScan := State.onlyNotices_of_van (by simp)
  rw [State.startHello_eq]
  exact (((State.onlyNotices_of_van (by rfl)).trans (hdock _)).trans (hscan _)).trans (State.onlyNotices_announceList _ Cause.all)

/-- DOCK_STATE occurs where the signal is present (R160, R162). -/
theorem State.startHello_raised (s : State) :
    ∃ d, s.raised s.startHello.announceDue (if s.dock.signalPresent then [(.dockState, d)] else []) := by
  let v := (s.queueMessage s.startMessage).modSupply fun p => { p with monitor := .run, powerLost := false, starting := none }
  refine ⟨u8 v.dock.link.code ++ u8 LinkState.align.code ++ u8 DockCause.signalUp.code, ?_⟩
  rw [State.startHello_eq]
  refine State.raised_announceDue ?_
  have hscan : v.beginDock.refillScan.van.notices = v.beginDock.van.notices := by simp
  have hpresent : v.dock.signalPresent = s.dock.signalPresent := rfl
  refine State.raised.congr ?_ hscan
  unfold State.beginDock
  rw [hpresent]
  split
  · exact State.raised_occur _ _ rfl rfl
  · exact State.raised_nil rfl

theorem State.startHello_absent (s : State) (h : s.dock.signalPresent = false) (hn : ∀ c, (s.notice c).pending = false) :
    s.startHello.announceDue.van.outbound = s.van.outbound ++ [s.startMessage] := by
  have hvan : s.startHello.van = (s.queueMessage s.startMessage).van := by
    have hscan (v : State) : v.refillScan.van = v.van := by simp
    rw [State.startHello_eq, hscan]
    exact (congrArg State.van (State.beginDock_absent (s := (s.queueMessage s.startMessage).modSupply fun p =>
      { p with monitor := .run, powerLost := false, starting := none }) h)).trans rfl
  have hsettled : s.startHello.settled := .inl fun c => by
    have hc : s.startHello.notice c = s.notice c := by
      simp only [State.notice, hvan]
      rfl
    rw [hc, Notice.due, hn c]
    rfl
  rw [State.announceDue_settled _ hsettled, hvan]
  rfl

end Hello

section Started

/-! ## The state that start-up leaves -/

variable {s t b : State} (p : Supply) (cause : ResetCause)

/-- The state after a whole start-up. -/
def State.started (b : State) : State := (b.reached p cause .dwell).startHello.announceDue

theorem State.started_frame (b : State) : (b.reached p cause .dwell).frame [.supply, .tx, .dock, .van] (b.started p cause) := by
  intro x hx
  have h := State.frame_startHello (b.reached p cause .dwell) x hx
  cases x <;> simp_all [State.agree, State.started]

theorem State.started_supply (b : State) : (b.started p cause).supply =
    { p with monitor := .run, powerLost := false, markerValid := true, starting := none } := by
  have hsupply : (b.started p cause).supply = (b.reached p cause .dwell).startHello.supply := by simp [State.started]
  rw [hsupply, State.startHello_supply]
  rfl

theorem State.started_route (b : State) : (b.started p cause).route =
    { (b.orderedAt .dwell).route with index := b.indexAt .dwell } := State.started_frame p cause b .route (by decide)

theorem State.started_tracker (b : State) : (b.started p cause).tracker = (b.orderedAt .dwell).tracker :=
  State.started_frame p cause b .tracker (by decide)

theorem State.started_store (b : State) : (b.started p cause).store = (b.orderedAt .dwell).store :=
  State.started_frame p cause b .store (by decide)

theorem State.frame_orderedAt (b : State) (k : StartStep) : b.frame [.route, .tracker, .store] (b.orderedAt k) := by
  have hload : b.frame [.route, .tracker, .store] b.loadDropped := by
    unfold State.loadDropped
    intro x hx
    split <;> cases x <;> simp_all [State.agree]
  have hstops : b.frame [.route, .tracker, .store] b.loadDropped.stopsBack :=
    State.frame_trans hload (State.frame_mono b.loadDropped.stopsBack_frame (by simp))
  have hrecords : b.frame [.route, .tracker, .store] b.loadDropped.stopsBack.recordsBack :=
    State.frame_trans hstops fun x hx => by cases x <;> simp_all [State.agree, State.recordsBack]
  cases k
  case marker => exact fun x _ => by cases x <;> rfl
  all_goals assumption

/-- What start-up leaves in every part but four. -/
theorem State.started_part (b : State) {x : Part} (hx : x ∉ [Part.supply, .route, .tracker, .store, .tx, .dock, .van]) :
    b.agree (b.started p cause) x := by
  have h1 := b.frame_orderedAt .dwell x fun h => hx (by simp_all)
  have h2 := State.started_frame p cause b x fun h => hx (by simp_all)
  cases x <;> simp_all [State.agree, State.reached, State.onSupply, State.withIndex]

theorem State.lost_tx (h : s.lost) : s.tx = .initial := by
  have hs : s.loseVolatile = s := h
  rw [← hs]
  rfl

theorem State.lost_clock (h : s.lost) : s.clock = .initial := by
  have hs : s.loseVolatile = s := h
  rw [← hs]
  rfl

theorem State.lost_van (h : s.lost) :
    s.van.outbound = [] ∧ s.van.hold = [] ∧ s.van.counters = .zero := by
  have hs : s.loseVolatile = s := h
  rw [← hs]
  exact ⟨rfl, rfl, rfl⟩

theorem State.started_tx (h : b.lost) :
    (b.started p cause).tx = ({ b.started p cause with tx := .initial } : State).refillScan.tx := by
  have hinitial : (b.reached p cause .dwell).tx = .initial :=
    (b.frame_orderedAt .dwell .tx (by decide)).trans (State.lost_tx h)
  have hroute : (b.reached p cause .dwell).route = (b.started p cause).route :=
    (State.started_frame p cause b .route (by decide)).symm
  have htracker : (b.reached p cause .dwell).tracker = (b.started p cause).tracker :=
    (State.started_frame p cause b .tracker (by decide)).symm
  have htx : (b.started p cause).tx = (b.reached p cause .dwell).startHello.tx := by simp [State.started]
  generalize b.started p cause = u at htx hroute htracker
  rw [htx, State.startHello_tx]
  exact State.refillScan_tx_congr (s := { u with tx := .initial }) hroute htracker hinitial

theorem State.started_dock (b : State) : (b.started p cause).dock =
    if b.dock.signalPresent then { b.dock with link := .align } else b.dock := by
  have hdock : (b.started p cause).dock = (b.reached p cause .dwell).startHello.dock := by simp [State.started]
  have hb : (b.reached p cause .dwell).dock = b.dock := b.frame_orderedAt .dwell .dock (by decide)
  rw [hdock, State.startHello_dock, hb]

/-- The notice state after start-up: DOCK_STATE alone is pending, where the signal is present. -/
theorem State.started_notice (h : b.lost) (c : Cause) :
    ((b.started p cause).notice c).masked = (b.notice c).masked ∧
      ((b.started p cause).notice c).pending = (b.dock.signalPresent && c == .dockState) := by
  have hb : (b.reached p cause .dwell).dock = b.dock := b.frame_orderedAt .dwell .dock (by decide)
  have hn : (b.reached p cause .dwell).notice c = b.notice c := by
    have hvan : (b.reached p cause .dwell).van = b.van := b.frame_orderedAt .dwell .van (by decide)
    simp only [State.notice, hvan]
  obtain ⟨d, hd⟩ := State.startHello_raised (b.reached p cause .dwell)
  obtain ⟨hmasked, hrest⟩ := hd c
  rw [hb] at hrest
  rw [hn] at hmasked hrest
  refine ⟨hmasked, ?_⟩
  have hclear : (b.notice c).pending = false := by rw [State.lost_notice h c]; rfl
  cases hp : b.dock.signalPresent with
  | false =>
    rw [hp] at hrest
    obtain ⟨hpending, _⟩ := hrest
    rw [State.started, hpending, hclear]
    rfl
  | true =>
    rw [hp] at hrest
    by_cases hc : c = .dockState
    · subst hc
      obtain ⟨hpending, _⟩ := hrest
      rw [State.started, hpending]
      rfl
    · have hne : (c == .dockState) = false := by simpa using hc
      simp only [if_true, List.lookup_cons, hne, List.lookup_nil] at hrest
      rw [State.started, hrest.1, hclear, hne]
      rfl

theorem State.started_van (h : b.lost) :
    (b.started p cause).van.outbound.head? = some (b.reached p cause .dwell).startMessage ∧ (b.started p cause).van.hold = [] ∧
      (b.started p cause).van.counters = .zero ∧ (b.started p cause).van.attnMode = b.van.attnMode := by
  have hvan : (b.reached p cause .dwell).van = b.van := b.frame_orderedAt .dwell .van (by decide)
  obtain ⟨hout, hhold, hcounters⟩ := State.lost_van h
  obtain ⟨⟨notices, hnotices, _, _⟩, ⟨_, hhold', _, hmode'⟩, hcounters'⟩ := (b.reached p cause .dwell).startHello_onlyNotices
  have hqueue (m : Message) : ((b.reached p cause .dwell).queueMessage m).van = { b.van with outbound := [m] } := by
    have h0 : ((b.reached p cause .dwell).queueMessage m).van =
        { (b.reached p cause .dwell).van with outbound := (b.reached p cause .dwell).van.outbound ++ [m] } := rfl
    rw [h0, hvan, hout]
    rfl
  have hstarted : (b.reached p cause .dwell).startHello.announceDue = b.started p cause := rfl
  rw [hqueue, hstarted] at hnotices hhold' hmode' hcounters'
  exact ⟨by rw [hnotices]; rfl, hhold'.trans hhold, hcounters'.trans hcounters, hmode'⟩

/-- HELLO stands first in the outbound queue, and alone where the dock link begins DOWN (R196). -/
theorem State.started_alone (h : b.lost) (hdock : b.dock.signalPresent = false) :
    (b.started p cause).van.outbound.length = 1 := by
  have hvan : (b.reached p cause .dwell).van = b.van := b.frame_orderedAt .dwell .van (by decide)
  have hb : (b.reached p cause .dwell).dock = b.dock := b.frame_orderedAt .dwell .dock (by decide)
  obtain ⟨hout, _, _⟩ := State.lost_van h
  have hclear (c : Cause) : ((b.reached p cause .dwell).notice c).pending = false := by
    have hn : (b.reached p cause .dwell).notice c = b.notice c := by simp only [State.notice, hvan]
    rw [hn, State.lost_notice h c]
    rfl
  rw [State.started, State.startHello_absent _ (by rw [hb]; exact hdock) hclear, hvan, hout]
  rfl

/-- The HELLO of a start-up (R196, R210). -/
theorem State.started_message (h : b.lost) : (b.reached p cause .dwell).startMessage =
    ⟨0x81, 0, [0x04, 0x12, 1] ++ u8 cause.code ++ u8 (b.started p cause).route.state.code ++
      u16 (b.started p cause).route.number ++ u8 (b.started p cause).tracker.openOrder.length ++
      u16 b.loadDropped.heardStops.length ++ u8 b.store.inFlightRecords.length ++
      u16 (b.started p cause).store.records.length ++ u16 (b.started p cause).store.fill ++
      u32 (b.started p cause).store.nextSequence ++ [0]⟩ := by
  have hclock : (b.reached p cause .dwell).clock = .initial :=
    (b.frame_orderedAt .dwell .clock (by decide)).trans (State.lost_clock h)
  have hmessage : (b.reached p cause .dwell).startMessage = ⟨0x81, 0, u16 Config.familyCode ++ u8 Config.revision ++
      u8 cause.code ++ u8 (b.reached p cause .dwell).route.state.code ++ u16 (b.reached p cause .dwell).route.number ++
      u8 (b.reached p cause .dwell).tracker.openOrder.length ++ u16 b.loadDropped.heardStops.length ++
      u8 b.store.inFlightRecords.length ++ u16 (b.reached p cause .dwell).store.records.length ++
      u16 (b.reached p cause .dwell).store.fill ++ u32 (b.reached p cause .dwell).store.nextSequence ++
      u8 (b.reached p cause .dwell).clock.state.code⟩ := rfl
  have hroute : (b.started p cause).route = (b.reached p cause .dwell).route := State.started_frame p cause b .route (by decide)
  have htracker : (b.started p cause).tracker = (b.reached p cause .dwell).tracker :=
    State.started_frame p cause b .tracker (by decide)
  have hstore : (b.started p cause).store = (b.reached p cause .dwell).store := State.started_frame p cause b .store (by decide)
  have hfamily : u16 Config.familyCode ++ u8 Config.revision = [0x04, 0x12, 1] := by decide
  rw [hmessage, hclock, hroute, htracker, hstore, hfamily]
  rfl

end Started
end Sys2Proof.Machine

namespace Sys2Proof.Machine

section Restart

/-! ## A start-up abandoned and begun again (R193) -/

variable {s t b : State} (p : Supply) (cause : ResetCause)

theorem State.reached_onSupply (b : State) (q : Supply) (k : StartStep) :
    (b.onSupply q).reached p cause k = b.reached p cause k := by
  have hordered : (b.onSupply q).orderedAt k = (b.orderedAt k).onSupply q := by
    cases k <;> simp only [State.orderedAt, State.loadDropped_onSupply, State.stopsBack_onSupply, State.recordsBack_onSupply]
  have hindex : (b.onSupply q).indexAt k = b.indexAt k := by
    cases k <;> simp only [State.indexAt, State.loadDropped_onSupply] <;> rfl
  have hprogress : (b.onSupply q).progressAt cause k = b.progressAt cause k := by
    cases k <;> simp only [State.progressAt, State.loadDropped_onSupply] <;> rfl
  rw [State.reached, hordered, hindex, hprogress]
  rfl

/-- Start-up begun again from the book of an earlier one. -/
theorem exec_startUp_again {q : Supply} (hm : q.monitor = .start) (hs : q.starting = none) (hv : q.markerValid = true)
    (hr : q.lastReset = .pin) (h : b.lost) : exec (.startUp .hello) (b.onSupply q) = .next (b.started q .pin) := by
  have hb : b.loseVolatile = b := h
  have hbegin : (b.onSupply q).beginning = b.onSupply q := by
    rw [State.beginning, State.onSupply_supply, if_pos hv, State.loseVolatile_onSupply, hb]
  have hcause : (b.onSupply q).supply.resetCause = .pin := by
    rw [State.onSupply_supply, Supply.resetCause, hv, hr]
    rfl
  rw [exec_startUp_whole (s := b.onSupply q) hm hs, hbegin, hcause, State.reached_onSupply]
  rfl

/-- Two start-ups, the second begun in the book of the first, leave the same state but for the supply monitor and the van link. -/
theorem State.started_again (h : b.lost) (k : StartStep) (q : Supply) (other : ResetCause) :
    (b.started p cause).frame [.supply, .van] ((b.orderedAt k).started q other) := by
  have hroute : ((b.orderedAt k).started q other).route = (b.started p cause).route := by
    rw [State.started_route, State.started_route, State.orderedAt_orderedAt, State.indexAt_orderedAt]
  have htracker : ((b.orderedAt k).started q other).tracker = (b.started p cause).tracker := by
    rw [State.started_tracker, State.started_tracker, State.orderedAt_orderedAt]
  have hstore : ((b.orderedAt k).started q other).store = (b.started p cause).store := by
    rw [State.started_store, State.started_store, State.orderedAt_orderedAt]
  have htx : ((b.orderedAt k).started q other).tx = (b.started p cause).tx := by
    have ht := State.started_tx p cause h
    have hu := State.started_tx q other (State.orderedAt_lost h k)
    generalize (b.orderedAt k).started q other = u at hroute htracker hu
    generalize b.started p cause = t at hroute htracker ht
    rw [hu, ht]
    exact State.refillScan_tx_congr (s := { t with tx := .initial }) (t := { u with tx := .initial }) hroute htracker rfl
  have hdock : ((b.orderedAt k).started q other).dock = (b.started p cause).dock := by
    rw [State.started_dock, State.started_dock, b.frame_orderedAt k .dock (by decide)]
  intro x hx
  by_cases hpart : x ∈ [Part.supply, .route, .tracker, .store, .tx, .dock, .van]
  · cases x <;> simp_all [State.agree]
  · have h1 := b.started_part p cause hpart
    have h2 := (b.orderedAt k).started_part q other hpart
    have h3 := b.frame_orderedAt k x fun h => hpart (by simp_all)
    cases x <;> simp_all [State.agree]

/-- The stops that a start-up begun again finds HEARD. -/
theorem State.orderedAt_heardStops (b : State) {k : StartStep} (hk : k ≠ .hello) :
    (b.orderedAt k).loadDropped.heardStops.length =
      if k = .stops ∨ k = .records ∨ k = .dwell then 0 else b.loadDropped.heardStops.length := by
  have hload := b.loadDropped_twice
  have hstops := State.loadDropped_stopsBack hload
  have hrecords := State.loadDropped_recordsBack hstops
  have hnone := b.loadDropped.stopsBack_heardStops
  have hnone' : b.loadDropped.stopsBack.recordsBack.heardStops = [] := hnone
  cases k
  case hello => contradiction
  all_goals simp [State.orderedAt, hload, hstops, hrecords, hnone, hnone']

theorem Store.returnInFlight_none (k : Store) : k.returnInFlight.inFlightRecords = [] := by
  refine List.filter_eq_nil_iff.2 fun r hr => ?_
  obtain ⟨r, _, rfl⟩ := List.mem_map.1 hr
  by_cases h : r.upload = .inFlight <;> simp [h]

/-- The records that a start-up begun again finds IN_FLIGHT. -/
theorem State.orderedAt_inFlight (b : State) {k : StartStep} (hk : k ≠ .hello) :
    (b.orderedAt k).store.inFlightRecords.length =
      if k = .records ∨ k = .dwell then 0 else b.store.inFlightRecords.length := by
  have hload := b.loadDropped_store
  have hstops : b.loadDropped.stopsBack.store = b.store := (b.loadDropped.stopsBack_frame .store (by decide)).trans hload
  have hrecords : b.loadDropped.stopsBack.recordsBack.store.inFlightRecords = [] :=
    b.loadDropped.stopsBack.store.returnInFlight_none
  cases k
  case hello => contradiction
  all_goals simp [State.orderedAt, hload, hstops, hrecords]

end Restart
end Sys2Proof.Machine

namespace Sys2Proof.Machine

section Kept

/-! ## The route book that a retained start keeps (R63) -/

variable {s : State}

theorem State.loseVolatile_segmentState (s : State) (n : Nat) : s.loseVolatile.segmentState n = s.segmentState n := by
  refine State.segmentState_congr ?_
  have h : s.loseVolatile.route.segments = s.route.segments.map fun g => { g with dwellElapsed := 0 } := rfl
  rw [h, List.map_map]
  rfl

theorem State.loseVolatile_returned (s : State) (q : Stop) : s.loseVolatile.returned q = s.returned q := by
  rw [State.returned, State.loseVolatile_segmentState]
  rfl

/-- A route found ACTIVE or RETIRED. -/
abbrev Route.keeps (r : Route) : Prop := r.state = .active ∨ r.state = .retired

theorem State.loadDropped_keeps (h : s.route.keeps) : s.loseVolatile.loadDropped = s.loseVolatile :=
  State.loadDropped_same (by rcases h with h | h <;> exact ⟨by simp [State.loseVolatile, Route.retained, h],
    by simp [State.loseVolatile, Route.retained, h]⟩)

theorem State.loseVolatile_heard (s : State) : s.loseVolatile.heardStops = s.route.heard.map (·.2) := s.heardStops_eq

/-- A HEARD stop stands where its index says. -/
theorem Route.mem_heard {r : Route} {x : Stop × Nat} (h : x ∈ r.heard) : r.stops[x.2]? = some x.1 :=
  List.mem_zipIdx_iff_getElem?.1 (List.mem_filter.1 h).1

theorem State.kept_segment (s : State) {n : Nat} {g : Segment} (hg : s.route.segments[n]? = some g) :
    ∃ h, s.loseVolatile.stopsBack.route.segments[n]? = some h ∧ h.state = g.state ∧ h.stopCount = g.stopCount ∧
      h.dwellLimit = g.dwellLimit ∧ h.dwellMode = g.dwellMode ∧ h.dwellElapsed = 0 ∧ h.late = g.late ∧
      h.lapsed = Nat.repeat (satStep 65535) (s.route.heard.countP fun x => s.lapses n x.1) g.lapsed := by
  have hlost : s.loseVolatile.route.segments[n]? = some { g with dwellElapsed := 0 } := by
    simp [State.loseVolatile, Route.retained, hg]
  obtain ⟨c, hc⟩ := foldl_returnStop_segment s.loseVolatile.heardStops_nodup s.loseVolatile hlost
  have hcount : (s.loseVolatile.heardStops.countP fun i =>
      (s.loseVolatile.route.stops[i]?).any (s.loseVolatile.lapses n)) = s.route.heard.countP fun x => s.lapses n x.1 := by
    rw [s.loseVolatile_heard, List.countP_map]
    refine List.countP_congr fun x hx => ?_
    have hstop : s.loseVolatile.route.stops[x.2]? = some x.1 := Route.mem_heard hx
    simp only [Function.comp_apply, hstop, Option.any_some, State.lapses, s.loseVolatile_returned]
  rw [hcount] at hc
  exact ⟨_, hc, rfl, rfl, rfl, rfl, rfl, rfl, rfl⟩

theorem State.kept_stops (s : State) : s.loseVolatile.stopsBack.route.stops =
    s.route.stops.map fun q => if q.status = .heard then { q with status := s.returned q, prior := none } else q := by
  have hback : s.loseVolatile.back = fun q => { q with status := s.returned q, prior := none } := by
    funext q
    rw [State.back, s.loseVolatile_returned]
  rw [State.stopsBack_stops, hback]
  rfl

theorem State.kept_tracker (s : State) : s.loseVolatile.stopsBack.tracker = { s.tracker with
    revisit := s.tracker.revisit ++ (s.route.heard.filter fun x =>
      s.returned x.1 == .missed && !s.tracker.revisit.contains x.2).map (·.2) } := by
  have hfilter : (s.loseVolatile.heardStops.filter fun i =>
      (s.loseVolatile.route.stops[i]?).any (s.loseVolatile.returned · == .missed) &&
        !s.loseVolatile.tracker.revisit.contains i) =
      (s.route.heard.filter fun x => s.returned x.1 == .missed && !s.tracker.revisit.contains x.2).map (·.2) := by
    rw [s.loseVolatile_heard, List.filter_map]
    refine congrArg (List.map Prod.snd) (List.filter_congr fun x hx => ?_)
    have hstop : s.loseVolatile.route.stops[x.2]? = some x.1 := Route.mem_heard hx
    simp only [Function.comp_apply, hstop, Option.any_some, s.loseVolatile_returned]
    rfl
  rw [State.stopsBack, foldl_returnStop_tracker s.loseVolatile.heardStops_nodup, hfilter]
  rfl

/-- The meter index finds every stop, the meter IDs being distinct (R33). -/
theorem Route.lookup_buildIndex {r : Route} (h : (r.stops.map Stop.meterId).Nodup) {x : Stop × Nat} (hx : x ∈ r.stops.zipIdx) :
    (r.buildIndex.find? (·.1 == x.1.meterId)).map (·.2) = some x.2 := by
  have hget : r.stops[x.2]? = some x.1 := List.mem_zipIdx_iff_getElem?.1 hx
  obtain ⟨hlt, hstop⟩ := List.getElem?_eq_some_iff.1 hget
  have hlen : x.2 < (r.stops.map Stop.meterId).zipIdx.length := by simpa using hlt
  have hfind : (r.stops.map Stop.meterId).zipIdx.find? (·.1 == x.1.meterId) = some (x.1.meterId, x.2) := by
    refine List.find?_eq_some_iff_getElem.2 ⟨beq_self_eq_true _, x.2, hlen, by simp [hstop], fun j hj => ?_⟩
    have hj' : j < (r.stops.map Stop.meterId).length := by simpa using hj.trans hlt
    have hne : (r.stops.map Stop.meterId)[j] ≠ (r.stops.map Stop.meterId)[x.2]'(by simpa using hlt) :=
      fun heq => hj.ne ((h.getElem_inj_iff).1 heq)
    simpa [hstop] using hne
  rw [Route.buildIndex_eq, hfind]
  rfl

end Kept
end Sys2Proof.Machine

namespace Sys2Proof.Machine

section Outcome

/-! ## What start-up leaves, by how it began -/

variable {s b : State} (p : Supply) (cause : ResetCause)

/-- The dock link begins DOWN or, with the signal present, ALIGN (R162). -/
theorem State.started_dockBegins (h : b.lost) {settings : DockSettings} {pin : Bool} (hb : b.dock = .initial settings pin) :
    (pin ≠ settings.polarityHigh ∧ settings.detectUsed = true →
      (b.started p cause).dock = .initial settings pin ∧ (b.started p cause).van.outbound.length = 1 ∧
        ∀ c : Cause, ((b.started p cause).notice c).pending = false) ∧
    (pin = settings.polarityHigh ∨ settings.detectUsed = false →
      (b.started p cause).dock = { Dock.initial settings pin with link := .align } ∧
        ∀ c : Cause, ((b.started p cause).notice c).pending = (c == .dockState)) := by
  have hpresent : b.dock.signalPresent = (!settings.detectUsed || pin == settings.polarityHigh) := by rw [hb]; rfl
  have hdock := b.started_dock p cause
  constructor
  · rintro ⟨hpin, hdetect⟩
    have habsent : b.dock.signalPresent = false := by simp [hpresent, hdetect, hpin]
    rw [habsent] at hdock
    refine ⟨hdock.trans hb, State.started_alone p cause h habsent, fun c => ?_⟩
    rw [(State.started_notice p cause h c).2, habsent]
    rfl
  · intro hon
    have htrue : b.dock.signalPresent = true := by
      rcases hon with hon | hon <;> simp [hpresent, hon]
    rw [htrue] at hdock
    refine ⟨hdock.trans (by rw [hb]; rfl), fun c => ?_⟩
    rw [(State.started_notice p cause h c).2, htrue]
    rfl

/-- The code of the cause that HELLO reports (R193, R210). -/
theorem Supply.resetCause_code (q : Supply) : q.resetCause.code =
    if q.markerValid = false then 0
    else match q.lastReset with
      | .command => 3
      | .pin => 4
      | .dip => if q.powerLost then 1 else 2 := by
  unfold Supply.resetCause
  cases q.markerValid <;> cases q.lastReset <;> cases q.powerLost <;> rfl

theorem Supply.resetCause_zero (q : Supply) : q.resetCause.code ≠ 0 ↔ q.markerValid = true := by
  unfold Supply.resetCause
  cases q.markerValid <;> cases q.lastReset <;> cases q.powerLost <;> simp [ResetCause.code]

theorem State.beginning_cold (h : s.supply.markerValid = false) :
    s.beginning = s.loseVolatile.coldStart.onSupply s.supply := by
  rw [State.beginning, h]
  rfl

theorem State.beginning_kept (h : s.supply.markerValid = true) : s.beginning = s.loseVolatile := by
  rw [State.beginning, h]
  rfl

/-- A route book without stops is in order. -/
theorem State.orderedAt_empty (hstate : b.route.state = .empty) (hstops : b.route.stops = []) :
    b.orderedAt .dwell = b.recordsBack ∧ b.loadDropped = b := by
  have hload : b.loadDropped = b := State.loadDropped_same (by rw [hstate]; exact ⟨nofun, nofun⟩)
  have hnone : b.stopsBack = b := State.stopsBack_none (by rw [State.heardStops, Route.stopIndexes, hstops]; rfl)
  exact ⟨by rw [State.orderedAt, hload, hnone], hload⟩

theorem State.started_cold (h : s.supply.markerValid = false) :
    (s.beginning.started p cause).route = .cold ∧ (s.beginning.started p cause).tracker = ⟨[], []⟩ ∧
      (s.beginning.started p cause).store = ⟨[], 1, 0, 0, 0⟩ := by
  obtain ⟨hordered, hload⟩ := State.orderedAt_empty (b := s.beginning) (by rw [s.beginning_cold h]; rfl)
    (by rw [s.beginning_cold h]; rfl)
  have hindex : s.beginning.indexAt .dwell = none := by
    rw [State.indexAt, hload, s.beginning_cold h]
    rfl
  rw [State.started_route, State.started_tracker, State.started_store, hindex, hordered, s.beginning_cold h]
  exact ⟨rfl, rfl, rfl⟩

/-- What a load leaves of the route book (R41). -/
theorem State.started_dropped (h : s.route.state = .loading ∨ s.route.state = .activating) :
    (s.loseVolatile.started p cause).route.state = .empty ∧ (s.loseVolatile.started p cause).route.number = 0 ∧
      (s.loseVolatile.started p cause).route.shiftDay = 0 ∧ (s.loseVolatile.started p cause).route.stops = [] ∧
      (s.loseVolatile.started p cause).route.segments = [] ∧ (s.loseVolatile.started p cause).tracker = ⟨[], []⟩ := by
  have hload : s.loseVolatile.loadDropped = s.loseVolatile.abandonRoute := by
    rcases h with h | h <;> simp [State.loadDropped, State.loseVolatile, Route.retained, h]
  have hnone : s.loseVolatile.abandonRoute.stopsBack = s.loseVolatile.abandonRoute := State.stopsBack_none rfl
  rw [State.started_route, State.started_tracker, State.orderedAt, hload, hnone]
  exact ⟨rfl, rfl, rfl, rfl, rfl, rfl⟩

/-- The settings of the route book stay through every start (R41). -/
theorem State.started_settings (b : State) : (b.started p cause).route.profiles = b.route.profiles ∧
    (b.started p cause).route.params = b.route.params ∧ (b.started p cause).route.disposition = b.route.disposition := by
  have hload : b.loadDropped.route.profiles = b.route.profiles ∧ b.loadDropped.route.params = b.route.params ∧
      b.loadDropped.route.disposition = b.route.disposition := by
    unfold State.loadDropped
    split <;> exact ⟨rfl, rfl, rfl⟩
  have hordered : (b.orderedAt .dwell).route = b.loadDropped.stopsBack.route := rfl
  rw [State.started_route, hordered, b.loadDropped.stopsBack_route]
  exact hload

/-- The store after a retained start (R125). -/
theorem State.started_records (s : State) : (s.loseVolatile.started p cause).store = { s.store with
    records := s.store.records.map fun r => if r.upload = .inFlight then { r with upload := .pending } else r
    appends := 0, reclaims := 0, drops := 0 } := by
  have hstore : s.loseVolatile.loadDropped.stopsBack.store = s.loseVolatile.store :=
    (s.loseVolatile.loadDropped.stopsBack_frame .store (by decide)).trans s.loseVolatile.loadDropped_store
  have hordered : (s.loseVolatile.orderedAt .dwell).store = s.loseVolatile.loadDropped.stopsBack.store.returnInFlight := rfl
  rw [State.started_store, hordered, hstore]
  rfl

/-- A route found ACTIVE or RETIRED after a retained start: its stops returned, all else kept (R63). -/
theorem State.started_kept (h : s.route.keeps) :
    (s.loseVolatile.started p cause).route =
      { s.loseVolatile.stopsBack.route with index := s.loseVolatile.startIndexed } ∧
      (s.loseVolatile.started p cause).tracker = s.loseVolatile.stopsBack.tracker := by
  have hordered : s.loseVolatile.orderedAt .dwell = s.loseVolatile.stopsBack.recordsBack := by
    rw [State.orderedAt, State.loadDropped_keeps h]
  have hindex : s.loseVolatile.indexAt .dwell = s.loseVolatile.startIndexed := by
    rw [State.indexAt, State.loadDropped_keeps h]
  rw [State.started_route, State.started_tracker, hordered, hindex]
  exact ⟨rfl, rfl⟩

/-- The stops that HELLO reports as returned (R63, R196). -/
theorem State.beginning_heardStops (hempty : s.route.state = .empty → s.route.stops = [] ∧ s.route.segments = []) :
    s.beginning.loadDropped.heardStops.length =
      if s.supply.markerValid = true ∧ s.route.keeps then s.route.heard.length else 0 := by
  have hstopless (b : State) (h : b.route.stops = []) : b.heardStops.length = 0 := by
    rw [State.heardStops, Route.stopIndexes, h]
    rfl
  cases hv : s.supply.markerValid with
  | false =>
    obtain ⟨_, hload⟩ := State.orderedAt_empty (b := s.beginning) (by rw [s.beginning_cold hv]; rfl)
      (by rw [s.beginning_cold hv]; rfl)
    rw [hload, hstopless _ (by rw [s.beginning_cold hv]; rfl), if_neg (by simp)]
  | true =>
    rw [s.beginning_kept hv]
    by_cases hk : s.route.keeps
    · rw [State.loadDropped_keeps hk, s.loseVolatile_heard, List.length_map, if_pos ⟨rfl, hk⟩]
    · rw [if_neg fun h => hk h.2]
      refine hstopless _ ?_
      have hstate : s.loseVolatile.route.state = s.route.state := rfl
      unfold State.loadDropped
      cases hs : s.route.state
      case active => exact absurd (.inl hs) hk
      case retired => exact absurd (.inr hs) hk
      case empty => rw [hstate, hs]; exact (hempty hs).1
      all_goals rw [hstate, hs]; rfl

/-- The records that HELLO reports as returned (R125, R196). -/
theorem State.beginning_inFlight (s : State) : s.beginning.store.inFlightRecords.length =
    if s.supply.markerValid = true then s.store.inFlightRecords.length else 0 := by
  cases h : s.supply.markerValid with
  | false => rw [s.beginning_cold h]; rfl
  | true => rw [s.beginning_kept h]; rfl

end Outcome
end Sys2Proof.Machine

namespace Sys2Proof.Machine

section Gathered

variable {s b : State} (p : Supply) (cause : ResetCause)

/-- What every start-up leaves at its initial value. -/
theorem State.started_initial (h : b.lost) :
    (b.started p cause).capture = .initial ∧ (b.started p cause).check = none ∧ (b.started p cause).clock = .initial := by
  have hb : b.loseVolatile = b := h
  have hcapture : (b.started p cause).capture = b.capture := b.started_part p cause (x := .capture) (by decide)
  have hcheck : (b.started p cause).check = b.check := b.started_part p cause (x := .check) (by decide)
  have hclock : (b.started p cause).clock = b.clock := b.started_part p cause (x := .clock) (by decide)
  rw [hcapture, hcheck, hclock, ← hb]
  exact ⟨rfl, rfl, rfl⟩

theorem State.started_channels (b : State) : (b.started p cause).channels = b.channels :=
  b.started_part p cause (x := .channels) (by decide)

theorem State.loseVolatile_channels (s : State) (k : ChannelNo) :
    s.loseVolatile.channels[k] = .initial s.channels[k].entry s.channels[k].cdPin :=
  ofFn_channel (fun n => .initial s.channels[n].entry s.channels[n].cdPin) k

theorem State.beginning_channels_cold (h : s.supply.markerValid = false) (k : ChannelNo) :
    s.beginning.channels[k] = .initial (.default k.val) s.channels[k].cdPin := by
  have hchannels : s.beginning.channels = s.loseVolatile.coldStart.channels := by rw [s.beginning_cold h]; rfl
  have hpin : s.loseVolatile.channels[k].cdPin = s.channels[k].cdPin := by rw [s.loseVolatile_channels]; rfl
  rw [hchannels, State.coldStart_channels, hpin]

theorem State.loseVolatile_masked (s : State) (c : Cause) : (s.loseVolatile.notice c).masked = (s.notice c).masked := by
  simp [State.notice, State.loseVolatile, Van.initial, Notice.clear]

theorem State.beginning_masked_cold (h : s.supply.markerValid = false) (c : Cause) :
    (s.beginning.notice c).masked = false := by
  have hvan : s.beginning.van = .initial (Vector.replicate 13 false) .level := by rw [s.beginning_cold h]; rfl
  simp [State.notice, hvan, Van.initial, Notice.clear]

/-- The recheck of a HEARD stop lapses at its return exactly where its segment or route has ended (R45). -/
theorem State.lapses_eq (s : State) (n : Nat) (q : Stop) : s.lapses n q = (q.segment == n && q.prior == some .recheck &&
    (s.segmentState q.segment == .closed || s.route.state == .retired)) := by
  have h := s.recheck_lapses_iff q
  unfold State.ended at h
  rw [Bool.eq_iff_iff]
  simp only [State.lapses, Bool.and_eq_true, beq_iff_eq, bne_iff_ne, Bool.or_eq_true, and_assoc]
  exact and_congr_right fun _ => h

/-- The status of a HEARD stop after its return, by the table of R45. -/
theorem State.returned_eq (s : State) (q : Stop) : s.returned q =
    match q.prior with
    | some .missed => .missed
    | some .read => .read
    | some .flagged => .flagged
    | some .recheck =>
      if (s.segmentState q.segment == .closed || s.route.state == .retired) = true then
        (if q.latest.any (·.recClass = .billing) then .read else .flagged) else .recheck
    | _ => if s.segmentState q.segment = .closed then .missed else .unread := by
  rw [← Stop.latestStatus_eq]
  unfold State.returned Stop.returnStatus
  rcases q.prior with _ | x
  · rfl
  · cases x <;> simp

end Gathered
end Sys2Proof.Machine

namespace Sys2Proof.Machine

/-- Settles O60: a start-up, taken whole or in parts, comes to the state `started`, and its book is the same when a reset has it
begun again part-way; what that state holds was said above, for a cold and for a retained start. -/
theorem startUpPutsInOrder : Obligations.StartUpPutsInOrder := by
  intro s hm hs hempty p cause keeps segment ended returned heard dock stopsBack recordsBack hello
  have hlost := s.beginning_lost
  have hcause : cause = p.resetCause.code := p.resetCause_code.symm
  have hvalid : cause ≠ 0 ↔ p.markerValid = true := by rw [hcause]; exact p.resetCause_zero
  have hreturned (q : Stop) : returned q = s.returned q := (s.returned_eq q).symm
  have hstops : s.beginning.loadDropped.heardStops.length = stopsBack := by
    rw [State.beginning_heardStops hempty]
    simp only [stopsBack, hvalid]
    rfl
  have hrecords : s.beginning.store.inFlightRecords.length = recordsBack := by
    rw [State.beginning_inFlight]
    simp only [recordsBack, hvalid]
    rfl
  obtain ⟨hfirst, hhold, hcounters, hmode⟩ := State.started_van p p.resetCause hlost
  rw [State.started_message p p.resetCause hlost, hstops, hrecords, ← hcause] at hfirst
  obtain ⟨hcapture, hcheck, hclock⟩ := State.started_initial p p.resetCause hlost
  have hwhole : exec (.startUp .hello) s = .next (s.beginning.started p p.resetCause) := exec_startUp_whole hm hs
  have hsupply := s.beginning.started_supply p p.resetCause
  have htx := State.started_tx p p.resetCause hlost
  have hchannels := s.beginning.started_channels p p.resetCause
  have hnotice := State.started_notice p p.resetCause hlost
  refine ⟨s.beginning.started p p.resetCause, hwhole, hsupply, hcapture, hcheck, hclock, hhold, hcounters, htx, hfirst,
    ?_, ?_, ?_⟩
  · intro hv
    obtain ⟨hroute, htracker, hstore⟩ := State.started_cold p p.resetCause hv
    refine ⟨hroute, htracker, hstore, ?_, hmode.trans ?_, fun c => ?_, fun k => ?_⟩
    · exact State.started_dockBegins p p.resetCause hlost (settings := ⟨true, true, 16⟩) (by rw [s.beginning_cold hv]; rfl)
    · rw [s.beginning_cold hv]
      rfl
    · exact (hnotice c).1.trans (State.beginning_masked_cold hv c)
    · rw [hchannels]
      exact State.beginning_channels_cold hv k
  · intro hv
    have hkept := s.beginning_kept hv
    rw [hkept] at hlost hmode hchannels hnotice ⊢
    obtain ⟨hprofiles, hparams, hdisposition⟩ := State.started_settings p p.resetCause s.loseVolatile
    refine ⟨s.started_records p p.resetCause, ?_, hmode, fun c => (hnotice c).1.trans (s.loseVolatile_masked c), fun k => ?_,
      hprofiles, hparams, hdisposition, State.started_dropped p p.resetCause, fun hk => ?_⟩
    · exact State.started_dockBegins p p.resetCause hlost rfl
    · rw [hchannels]
      exact s.loseVolatile_channels k
    · obtain ⟨hroute, htracker⟩ := State.started_kept p p.resetCause (s := s) hk
      rw [hroute, htracker, s.kept_tracker, s.loseVolatile.stopsBack_route]
      refine ⟨rfl, rfl, rfl, ?_, fun n g hg => ?_, ?_, fun hactive hdistinct x hx => ?_⟩
      · simp only [hreturned]
        exact s.kept_stops
      · obtain ⟨h, hh, hstate, hcount, hlimit, hdwell, helapsed, hlate, hlapsed⟩ := s.kept_segment hg
        refine ⟨h, hh, hstate, hcount, hlimit, hdwell, helapsed, hlate, hlapsed.trans ?_⟩
        simp only [s.lapses_eq]
        rfl
      · simp only [hreturned]
        rfl
      · have hindex : s.loseVolatile.startIndexed = some s.route.buildIndex := if_pos hactive
        rw [Route.lookup, hindex]
        exact Route.lookup_buildIndex hdistinct hx
  · intro k hk
    obtain ⟨held, q, hassert, hrelease, hqm, hqs, hqv, hqr⟩ := exec_reset_reached p p.resetCause hm hlost k
    have hordered := State.orderedAt_lost hlost k
    refine ⟨s.beginning.reached p p.resetCause k, exec_startUp_part hm hs hk, hm, exec_startUp_rest p p.resetCause hm hlost k,
      held, (s.beginning.orderedAt k).onSupply q, (s.beginning.orderedAt k).started q .pin, hassert, hrelease,
      exec_startUp_again hqm hqs hqv hqr hordered, State.started_again p p.resetCause hlost k q .pin, ?_⟩
    obtain ⟨hagain, _⟩ := State.started_van q .pin hordered
    rw [State.started_message q .pin hordered, State.orderedAt_heardStops _ hk, State.orderedAt_inFlight _ hk, hstops,
      hrecords] at hagain
    exact hagain

end Sys2Proof.Machine

namespace Sys2Proof.Machine

section Rows

variable {s : State}

/-- A row of a working part acts, and the causes that became due are announced (R183). -/
theorem exec_running {i : Instr} {act : State → State} (hrow : exec i s = whenRunning s act) (hrun : s.running = true) :
    exec i s = .next (act s).announceDue := by
  rw [hrow, whenRunning_next, if_pos hrun]

theorem State.frame_modCapture (s : State) (f : Capture → Capture) (ps : List Part) (h : Part.capture ∈ ps) :
    s.frame ps (s.modCapture f) := by
  intro b hb
  cases b with
  | capture => exact absurd h hb
  | _ => rfl

end Rows

section Finalising

/-! ## Finalisation (R81 to R83) -/

variable {s : State} {c : Capture} {i : Nat} {e x : Entry}

/-- Handing an entry on touches the heard table and the check queue alone (R83). -/
theorem Capture.handToCheck_kept (c : Capture) (e : Entry) :
    (c.handToCheck e).handedOn = c.handedOn ∧ (c.handToCheck e).counters = c.counters ∧
    (c.handToCheck e).nextCreation = c.nextCreation ∧ (c.handToCheck e).nextFinal = c.nextFinal ∧
    (c.handToCheck e).foreign = c.foreign := by
  unfold Capture.handToCheck
  split <;> exact ⟨rfl, rfl, rfl, rfl, rfl⟩

/-- Handing an entry on brings no stop into the heard table (R83). -/
theorem Capture.stop_of_mem_handToCheck (h : x ∈ (c.handToCheck e).heard) : ∃ y ∈ c.heard, y.stop = x.stop := by
  unfold Capture.handToCheck at h
  split at h
  · exact ⟨x, (List.mem_filter.1 h).1, rfl⟩
  · obtain ⟨y, hy, rfl⟩ := List.mem_map.1 h
    refine ⟨y, hy, ?_⟩
    split
    · assumption
    · rfl

theorem Capture.anyFinalWait_iff (c : Capture) : (!c.anyFinalWait) = true ↔ ∀ x ∈ c.heard, x.final = none := by
  simp [Capture.anyFinalWait, Entry.gathering]

theorem Capture.gatheringFor_some (h : c.gatheringFor i = some e) : e ∈ c.heard ∧ e.stop = i ∧ e.final = none := by
  have hp := List.find?_some h
  simp only [Entry.gathering, Bool.and_eq_true, beq_iff_eq, Option.isNone_iff_eq_none] at hp
  exact ⟨List.mem_of_find?_eq_some h, hp⟩

/-- Where no stop is heard twice, an entry that gathers is the one of its stop (R73). -/
theorem Capture.gatheringFor_of_mem (hn : (c.heard.map (·.stop)).Nodup) (he : e ∈ c.heard) (hf : e.final = none) :
    c.gatheringFor e.stop = some e := by
  have hsome : (c.gatheringFor e.stop).isSome = true :=
    List.find?_isSome.2 ⟨e, he, by simp [Entry.gathering, hf]⟩
  obtain ⟨x, hx⟩ := Option.isSome_iff_exists.1 hsome
  obtain ⟨hmem, hstop, _⟩ := Capture.gatheringFor_some hx
  rw [hx, List.inj_on_of_nodup_map hn hmem he hstop]

theorem State.finalise_eq (h : s.capture.gatheringFor i = some e) :
    s.finalise i = s.modCapture fun c => c.finalisedAll s.route.params.confirmCount [e] := by
  unfold State.finalise Capture.finalisedAll
  simp only [h, Capture.handToCheck_kept, List.foldl_cons, List.foldl_nil]

/-- The test of R79 on the GATHERING entry of a stop. -/
theorem State.testFinal_eq (h : s.capture.gatheringFor i = some e) :
    s.testFinal i = s.modCapture fun c => c.tested s.route.params.confirmCount e := by
  unfold State.testFinal
  rw [h]
  by_cases hd : s.route.params.confirmCount ≤ e.eligible ∨ e.polled = true
  · simp only [if_pos hd, State.finalise_eq h, Capture.tested]
    rfl
  · simp only [if_neg hd, Capture.tested]
    rfl

/-- An entry finalised alone leaves for the check queue, or waits in its place (R83). -/
theorem Capture.finalisedAll_singleton (c : Capture) (confirmCount : Nat) (e : Entry) :
    c.finalisedAll confirmCount [e] =
      let done := { e with final := some ⟨decide (confirmCount ≤ e.eligible), c.nextFinal⟩ }
      if c.queue.length < 16 ∧ (∀ x ∈ c.heard, x.final = none) then
        { c with heard := c.heard.filter (·.stop ≠ e.stop), queue := c.queue ++ [done], nextFinal := c.nextFinal + 1 }
      else { c with heard := c.heard.map fun x => if x.stop = e.stop then done else x, nextFinal := c.nextFinal + 1 } := by
  change { c.handToCheck (e.finalised confirmCount c.nextFinal) with nextFinal := c.nextFinal + 1 } = _
  unfold Capture.handToCheck
  simp only [Capture.anyFinalWait_iff]
  split <;> rfl

theorem State.expireEntry_due {timer : Entry → Timer} (h : s.capture.gatheringFor i = some e)
    (hdue : (timer e).limit ≤ (timer e).elapsed) : s.expireEntry i timer = s.finalise i := by
  unfold State.expireEntry
  rw [h]
  exact if_pos (decide_eq_true hdue)

/-- Settles O27: either expiry finalises the one entry of its stop that gathers. -/
theorem expiryFinalisesEntry : Obligations.ExpiryFinalisesEntry := by
  intro i e row s hrun _ he hrow done
  have hexec : exec row s = .next (s.finalise i).announceDue := by
    rcases hrow with ⟨rfl, hdue⟩ | ⟨rfl, hdue⟩
    · rw [exec_running (act := fun s => s.expireEntry i Entry.hold) rfl hrun, State.expireEntry_due he hdue]
    · rw [exec_running (act := fun s => s.expireEntry i Entry.gather) rfl hrun, State.expireEntry_due he hdue]
  obtain ⟨_, rfl, _⟩ := Capture.gatheringFor_some he
  refine ⟨_, hexec, ?_, ?_⟩
  · simp only [State.announceDue_frame]
    rw [State.finalise_eq he, State.modCapture_capture]
    exact s.capture.finalisedAll_singleton _ e
  · rw [State.finalise_eq he]
    exact State.changesOnly_of_van rfl (s.frame_modCapture _ _ (by simp))

end Finalising

section Starting

/-! ## The check start (R84, R91, R92) -/

/-- Settles O28: the head leaves with its snapshot, and the first FINAL_WAIT entry takes the place freed. -/
theorem checkStartTakesHead : Obligations.CheckStartTakesHead := by
  intro e rest p fields s hrun hidle hqueue hstop hstatic
  let u := (s.modCheck fun _ => some (s.snapshot e)).modCapture fun c => { c with queue := rest }.refillQueue
  have hexec : exec .checkStart s = .next u.announceDue := by
    change execCheckStart s = _
    unfold execCheckStart
    simp only [whenRunning_next, hrun, if_true, hidle, hqueue, u]
  refine ⟨_, hexec, ?_, ?_, ?_⟩
  · simp [u, State.snapshot, hstop, hstatic]
  · simp only [State.announceDue_frame, u, State.modCapture_capture, State.modCheck_capture, Capture.refillQueue]
    rfl
  · refine State.changesOnly_of_van rfl fun b hb => ?_
    cases b <;> simp_all [State.agree, u]

end Starting

end Sys2Proof.Machine

namespace Sys2Proof.Machine

section Scanned

/-! ## What a refill scan and a removal leave of the transmitter (R127, R130) -/

variable {s t : State} {named : Nat → Bool}

theorem State.scanStop_tx_queue (s : State) (i : Nat) :
    (s.scanStop i).tx = { s.tx with queue := (s.scanStop i).tx.queue } := by
  rw [State.scanStop_tx]
  split <;> rfl

/-- A refill scan touches the poll queue alone. -/
theorem State.refillScan_tx_queue (s : State) : s.refillScan.tx = { s.tx with queue := s.refillScan.tx.queue } := by
  have hfold : ∀ (l : List Nat) (s : State),
      (l.foldl State.scanStop s).tx = { s.tx with queue := (l.foldl State.scanStop s).tx.queue } := by
    intro l
    induction l with
    | nil => exact fun _ => rfl
    | cons i l ih =>
      intro s
      rw [List.foldl_cons, ih (s.scanStop i), State.scanStop_tx_queue]
  exact hfold _ s

/-- A poll that a refill scan queues is for a stop it wants read (R127). -/
theorem State.mem_refillScan_cases {q : PollEntry} (h : q ∈ s.refillScan.tx.queue) :
    q ∈ s.tx.queue ∨ ∃ p, s.route.stops[q.stop]? = some p ∧ p.status.wanted = true := by
  have hfold : ∀ (l : List Nat) (s : State), q ∈ (l.foldl State.scanStop s).tx.queue →
      q ∈ s.tx.queue ∨ ∃ p, s.route.stops[q.stop]? = some p ∧ p.status.wanted = true := by
    intro l
    induction l with
    | nil => exact fun _ => .inl
    | cons i l ih =>
      intro s hq
      rcases ih (s.scanStop i) hq with hq | hq
      · rw [State.scanStop_tx] at hq
        split at hq
        · rename_i hcand
          refine (List.mem_append.1 hq).imp id fun hq => ?_
          obtain rfl := List.mem_singleton.1 hq
          have hc := hcand.2
          unfold State.candidate at hc
          cases hp : s.route.stops[i]? with
          | none => simp [hp] at hc
          | some p => exact ⟨p, hp, by simp_all⟩
        · exact .inl hq
      · simp only [State.scanStop_frame] at hq
        exact .inr hq
  exact hfold _ s h

theorem State.scanIf_tx_queue (s : State) (called : Bool) :
    (s.scanIf called).tx = { s.tx with queue := (s.scanIf called).tx.queue } := by
  cases called
  · rfl
  · exact s.refillScan_tx_queue

theorem State.removePolls_tx_kept (s : State) (named : Nat → Bool) :
    (s.removePolls named).tx.counters = s.tx.counters ∧ (s.removePolls named).tx.lastToken = s.tx.lastToken ∧
    (s.removePolls named).tx.inhibit = s.tx.inhibit ∧
    (s.removePolls named).tx.state = (s.dropPolls named).tx.state := by
  unfold State.removePolls
  rw [State.scanIf_tx_queue]
  exact ⟨rfl, rfl, rfl, rfl⟩

/-- A removal leaves an IDLE transmitter IDLE (R130). -/
theorem State.removePolls_idle (h : s.tx.state = .idle) : (s.removePolls named).tx.state = .idle := by
  rw [(s.removePolls_tx_kept named).2.2.2]
  simp [State.dropPolls, h]

/-- A removal reads route book, tracker and transmitter alone. -/
theorem State.removePolls_tx_congr (hr : t.route = s.route) (hk : t.tracker = s.tracker) (hx : t.tx = s.tx) :
    (t.removePolls named).tx = (s.removePolls named).tx := by
  have hdrop : (t.dropPolls named).tx = (s.dropPolls named).tx := by simp only [State.dropPolls, State.modTx_tx, hx]
  have hreached : t.pollsReached named = s.pollsReached named := by simp only [State.pollsReached, hx]
  unfold State.removePolls State.scanIf
  rw [hreached]
  split
  · exact State.refillScan_tx_congr (by simp [hr]) (by simp [hk]) hdrop
  · exact hdrop

/-- No poll is queued for a stop just removed that no scan wants (R127, R130). -/
theorem State.removePolls_queue {i : Nat} (hi : ∀ p, s.route.stops[i]? = some p → p.status.wanted = false) :
    ∀ q ∈ (s.removePolls (· == i)).tx.queue, q.stop ≠ i := by
  have hdrop : ∀ q ∈ (s.dropPolls (· == i)).tx.queue, q.stop ≠ i := by
    intro q hq
    simpa using (List.mem_filter.1 hq).2
  intro q hq
  unfold State.removePolls State.scanIf at hq
  split at hq
  · rcases State.mem_refillScan_cases hq with hq | ⟨p, hp, hw⟩
    · exact hdrop q hq
    · rintro rfl
      simp only [State.dropPolls_frame] at hp
      rw [hi p hp] at hw
      cases hw
  · exact hdrop q hq

/-- Beside a poll on the air, the transmitter names no stop just removed that no scan wants (R127, R130). -/
theorem State.removePolls_names {i : Nat} (hi : ∀ p, s.route.stops[i]? = some p → p.status.wanted = false)
    (hair : (s.removePolls (· == i)).tx.state.onAir = false) : (s.removePolls (· == i)).tx.names i = false := by
  have hqueue := State.removePolls_queue hi
  have hpoll : (s.removePolls (· == i)).tx.state.poll.any (·.stop == i) = false := by
    rw [(s.removePolls_tx_kept _).2.2.2] at hair ⊢
    simp only [State.dropPolls, State.modTx_tx] at hair ⊢
    cases hs : s.tx.state with
    | idle => rfl
    | clearing p g w =>
      by_cases hp : p.stop = i <;> simp [hp, TxState.poll]
    | keyed => simp [hs, TxState.onAir] at hair
    | listen => simp [hs, TxState.onAir] at hair
  simpa [Transmitter.names, hpoll] using hqueue

end Scanned

section Taken

/-! ## The frame taken, and the reply match that comes before any test (R65, R135) -/

variable {s t : State} {ch : ChannelNo} {f : Frame} {counted : CaptureCounters}

/-- The state in which a frame meets the tests: it has left the frames handed on, and a poll that it matches is satisfied. -/
def State.frameTaken (s : State) (ch : ChannelNo) (f : Frame) : State :=
  let u := s.modCapture fun c => { c with handedOn := c.framesAfter ch }
  if s.tx.matches f then u.satisfyPoll else u

theorem exec_captureFrame (hrun : s.running = true) (hf : s.capture.nextFrame ch = some f) :
    exec (.captureFrame ch) s = .next ((s.frameTaken ch f).classify f (s.tx.matches f)).announceDue := by
  change execCaptureFrame ch s = _
  unfold execCaptureFrame
  rw [Capture.nextFrame] at hf
  simp only [whenRunning_next, hrun, if_true, hf]
  rfl

theorem Capture.nextFrame_channel {c : Capture} (h : c.nextFrame ch = some f) : f.channel = ch := by
  simpa using List.find?_some h

theorem State.frameTaken_parts (s : State) (ch : ChannelNo) (f : Frame) :
    (s.frameTaken ch f).capture = { s.capture with handedOn := s.capture.framesAfter ch } ∧
    (s.frameTaken ch f).route = s.route ∧ (s.frameTaken ch f).tracker = s.tracker ∧ (s.frameTaken ch f).van = s.van ∧
    (s.frameTaken ch f).clock = s.clock := by
  unfold State.frameTaken
  split <;> simp

theorem State.frameTaken_frame (s : State) (ch : ChannelNo) (f : Frame) : s.frame [.capture, .tx] (s.frameTaken ch f) := by
  intro b hb
  unfold State.frameTaken
  split <;> cases b <;> simp_all [State.agree]

/-- The transmitter after the reply match (R135). -/
theorem State.frameTaken_tx (s : State) (ch : ChannelNo) (f : Frame) :
    (s.frameTaken ch f).tx = (if s.tx.matches f then s.satisfyPoll else s).tx := by
  unfold State.frameTaken
  split
  · exact State.refillScan_tx_congr rfl rfl rfl
  · rfl

theorem State.satisfyPoll_tx (s : State) : s.satisfyPoll.tx =
    { s.tx with
      state := .idle, counters := { s.tx.counters with satisfied := s.tx.counters.satisfied + 1 }
      queue := s.satisfyPoll.tx.queue } := State.refillScan_tx_queue _

theorem State.frameTaken_counters (s : State) (ch : ChannelNo) (f : Frame) : (s.frameTaken ch f).tx.counters =
    if s.tx.matches f then { s.tx.counters with satisfied := s.tx.counters.satisfied + 1 } else s.tx.counters := by
  rw [State.frameTaken_tx]
  split
  · rw [State.satisfyPoll_tx]
  · rfl

theorem State.frameTaken_idle (h : s.tx.matches f = true) : (s.frameTaken ch f).tx.state = .idle := by
  rw [State.frameTaken_tx, if_pos h, State.satisfyPoll_tx]

end Taken

end Sys2Proof.Machine

namespace Sys2Proof.Machine

section Counted

/-! ## Frames that open and join no entry (R65, R68, R71, R87) -/

variable {s t : State} {ch : ChannelNo} {f : Frame} {m : Bool} {i : Nat} {p : Stop} {counted : CaptureCounters}

/-- The report that a frame sends which opens and joins no entry: a FOREIGN_REPORT on a first sighting, an ALARM_REPORT beyond the
limit (R68, R71). -/
def State.frameReport (s : State) (f : Frame) : Option Message :=
  match s.stopFor f with
  | none =>
    if s.isForeign f ∧ s.capture.foreign.find? (·.meterId == f.meterId) = none ∧ s.route.params.foreignReporting then
      some ⟨0x84, 0, foreignReportBody f s.stamp⟩
    else none
  | some (i, p) =>
    if s.route.state = .active ∧ p.status ≠ .skipped ∧ p.status ≠ .heard ∧ isFollowup p f then
      some ⟨0x83, 0, alarmReportBody i p f s.stamp⟩
    else none

/-- A report queued, where there is one. -/
def State.sendReport (s : State) : Option Message → State
  | none => s
  | some r => s.queueReport r.kind r.body

/-- What a frame that opens and joins no entry writes in the capture filter: its counter, and the foreign list (R68, R87). -/
def State.counting (s : State) (f : Frame) (counted : CaptureCounters) : State :=
  s.modCapture fun c =>
    { c with counters := counted, foreign := if s.isForeign f then s.foreignAfter f else s.capture.foreign }

theorem State.sendReport_frame (s : State) (r : Option Message) : s.frame [.van] (s.sendReport r) := by
  intro b hb
  cases r <;> cases b <;> simp_all [State.agree, State.sendReport]

theorem State.foreignSighting_eq (k : CaptureCounters → CaptureCounters) (ha : s.route.state = .active)
    (hs : s.stopFor f = none) :
    (s.countCapture k).foreignSighting f = (s.counting f (k s.capture.counters)).sendReport (s.frameReport f) := by
  have hforeign : s.isForeign f = true := by simp [State.isForeign, ha, hs]
  unfold State.foreignSighting State.counting State.frameReport State.foreignAfter
  simp only [hs, hforeign, State.countCapture, State.modCapture_capture, State.modCapture_route]
  cases s.capture.foreign.find? (·.meterId == f.meterId) with
  | some item => simp [State.sendReport]; rfl
  | none =>
    by_cases hr : s.route.params.foreignReporting = true <;> simp [State.sendReport, hr] <;> rfl

theorem State.classify_stop (ha : s.route.state = .active) (hs : s.stopFor f = some (i, p)) :
    s.classify f m = s.stopFrame i p f m := by
  unfold State.classify
  rw [if_neg (by simpa using ha)]
  unfold State.stopFor at hs
  rw [hs]

/-- A frame of a stop that opens and joins no entry, by the stop's status (tests 3 to 7 of R65). -/
theorem State.stopFrame_counted (ha : s.route.state = .active) (hs : s.stopFor f = some (i, p))
    (h : s.countedFrame f = some counted) :
    s.stopFrame i p f m = (s.counting f counted).sendReport (s.frameReport f) := by
  have hforeign : s.isForeign f = false := by simp [State.isForeign, hs]
  unfold State.countedFrame at h
  simp only [ha, hs, ne_eq, not_true, if_false] at h
  unfold State.stopFrame State.counting State.frameReport
  simp only [hs, hforeign, ha]
  cases hp : p.status with
  | unread | missed | recheck => simp [hp] at h
  | skipped =>
    simp only [hp] at h
    obtain rfl := Option.some.inj h
    simp [State.sendReport]
    rfl
  | heard =>
    simp only [hp, Option.ite_none_right_eq_some] at h
    obtain ⟨hlate, h⟩ := h
    obtain rfl := Option.some.inj h
    simp [State.sendReport, State.heardFrame, hlate]
    rfl
  | read | flagged =>
    simp only [hp] at h
    unfold State.settledFrame
    cases hf : isFollowup p f <;> simp only [hf, Bool.not_true, Bool.not_false, Bool.false_eq_true, if_true, if_false,
      Option.ite_none_right_eq_some] at h
    · obtain rfl := Option.some.inj h
      simp [State.sendReport]
      rfl
    · obtain ⟨hlimit, h⟩ := h
      obtain rfl := Option.some.inj h
      simp [State.sendReport, Nat.not_lt.2 hlimit]
      rfl

/-- A frame that opens and joins no entry is counted, and may be reported. -/
theorem State.classify_counted (h : s.countedFrame f = some counted) :
    s.classify f m = (s.counting f counted).sendReport (s.frameReport f) := by
  by_cases ha : s.route.state = .active
  · cases hs : s.stopFor f with
    | some x => exact (State.classify_stop ha hs).trans (State.stopFrame_counted ha hs h)
    | none =>
      unfold State.countedFrame at h
      simp only [ha, hs, ne_eq, not_true, if_false] at h
      obtain rfl := Option.some.inj h
      rw [← s.foreignSighting_eq (fun k => { k with foreign := k.foreign + 1 }) ha hs]
      unfold State.classify
      rw [if_neg (by simpa using ha)]
      unfold State.stopFor at hs
      rw [hs]
  · unfold State.countedFrame at h
    rw [if_pos ha] at h
    obtain rfl := Option.some.inj h
    have hforeign : s.isForeign f = false := by simp [State.isForeign, ha]
    unfold State.classify State.counting State.frameReport
    rw [if_pos ha]
    cases hs : s.stopFor f <;> simp [State.sendReport, ha, hforeign] <;> rfl

end Counted

end Sys2Proof.Machine

namespace Sys2Proof.Machine

section Reported

variable {s t : State} {ch : ChannelNo} {f : Frame} {m : Bool} {counted : CaptureCounters}

theorem State.sendReport_parts (s : State) (r : Option Message) :
    (s.sendReport r).capture = s.capture ∧ (s.sendReport r).tx = s.tx ∧ (s.sendReport r).route = s.route := by
  cases r <;> simp [State.sendReport]

/-- Taking a frame and matching it leave what the tests read as it was. -/
theorem State.frameTaken_reads (s : State) (ch : ChannelNo) (f : Frame) :
    (s.frameTaken ch f).countedFrame f = s.countedFrame f ∧ (s.frameTaken ch f).isForeign f = s.isForeign f ∧
    (s.frameTaken ch f).foreignAfter f = s.foreignAfter f ∧ (s.frameTaken ch f).frameReport f = s.frameReport f ∧
    (s.frameTaken ch f).stopFor f = s.stopFor f ∧ (s.frameTaken ch f).stamp = s.stamp := by
  obtain ⟨hcapture, hroute, _, _, hclock⟩ := s.frameTaken_parts ch f
  have hstop : (s.frameTaken ch f).stopFor f = s.stopFor f := by simp only [State.stopFor, hroute]
  have hstamp : (s.frameTaken ch f).stamp = s.stamp := by simp only [State.stamp, hclock]
  have hforeign : (s.frameTaken ch f).isForeign f = s.isForeign f := by simp only [State.isForeign, hstop, hroute]
  refine ⟨?_, hforeign, ?_, ?_, hstop, hstamp⟩
  · unfold State.countedFrame
    rw [hstop, hcapture, hroute]
    rfl
  · simp only [State.foreignAfter, hcapture, hstamp]
  · unfold State.frameReport
    rw [hstop, hforeign, hstamp, hcapture, hroute]

/-- The capture filter after a frame that opens and joins no entry. -/
theorem State.counting_capture (s : State) (ch : ChannelNo) (f : Frame) (counted : CaptureCounters) :
    ((s.frameTaken ch f).counting f counted).capture = { s.capture with
      handedOn := s.capture.framesAfter ch
      counters := counted
      foreign := if s.isForeign f then s.foreignAfter f else s.capture.foreign } := by
  obtain ⟨hcapture, _⟩ := s.frameTaken_parts ch f
  obtain ⟨_, hforeign, hafter, _⟩ := s.frameTaken_reads ch f
  simp only [State.counting, State.modCapture_capture, hcapture, hforeign, hafter]

theorem State.counting_parts (s : State) (f : Frame) (counted : CaptureCounters) :
    (s.counting f counted).tx = s.tx ∧ (s.counting f counted).route = s.route ∧ (s.counting f counted).van = s.van :=
  ⟨rfl, rfl, rfl⟩

/-- A frame that opens and joins no entry: the state before the report and the notices. -/
theorem exec_captureFrame_counted (hrun : s.running = true) (hf : s.capture.nextFrame ch = some f)
    (h : s.countedFrame f = some counted) : exec (.captureFrame ch) s =
      .next (((s.frameTaken ch f).counting f counted).sendReport (s.frameReport f)).announceDue := by
  obtain ⟨hcounted, _, _, hreport, _⟩ := s.frameTaken_reads ch f
  rw [exec_captureFrame hrun hf, State.classify_counted (hcounted.trans h), hreport]

/-- Only a frame of a foreign meter and an ALARM send reports (R68, R71). -/
theorem State.frameReport_none (hf : s.isForeign f = false) (hk : f.kind ≠ .alarm) : s.frameReport f = none := by
  unfold State.frameReport
  cases hs : s.stopFor f with
  | none => simp [hf]
  | some x => simp [isFollowup, hk]

/-- Reports carry tag 0. -/
theorem State.frameReport_tag {r : Message} (h : s.frameReport f = some r) : (⟨r.kind, 0, r.body⟩ : Message) = r := by
  unfold State.frameReport at h
  split at h <;> split at h <;> cases h <;> rfl

/-- A report queued with a place free, at the end of its event (R180, R181). -/
theorem State.queueMessage_announced {u : State} {r : Message} (hv : u.van = s.van) (ht : t = (u.queueMessage r).announceDue) :
    (∃ notices, t.van.outbound = s.van.outbound ++ r :: notices ∧ (∀ n ∈ notices, n.kind = 0x85) ∧
      s.van.pulsed notices.length t.van) ∧
    s.raised t [] ∧ s.van.sameLink t.van ∧ t.van.counters = s.van.counters := by
  have hqueued : (u.queueMessage r).van = { s.van with outbound := s.van.outbound ++ [r] } := by
    simp [State.queueMessage, hv]
  have hraised : s.raised t [] := ht ▸ State.raised_announceDue (State.raised_nil (by rw [hqueued]))
  have hlink := (u.queueMessage r).announceDue_van
  rw [← ht, hqueued] at hlink
  obtain ⟨⟨ns, hout, hkind, hpulsed⟩, hhold, hrx, hreset, hmode, hcounters⟩ := hlink
  have hstill : s.van.pulsed 0 { s.van with outbound := s.van.outbound ++ [r] } := Van.pulsed_zero_of rfl rfl
  refine ⟨⟨ns, by simpa using hout, hkind, ?_⟩, hraised, ⟨hrx, hhold, hreset, hmode⟩, hcounters⟩
  simpa only [Nat.zero_add] using Van.pulsed_add rfl hstill hpulsed

/-- The van link once a report has been lost (R181). -/
def State.losingReport (s : State) (kind : Byte) : State :=
  (s.modVan fun v => { v with counters := { v.counters with reportsLost := satStep 65535 v.counters.reportsLost } }).occur
    .reportsLost (u8 kind.toNat ++ u16 (satStep 65535 s.van.counters.reportsLost))

/-- A report lost in a full queue, at the end of its event: it is counted, and REPORTS_LOST occurs (R181). -/
theorem State.reportLost_announced {u : State} {kind : Byte} (hv : u.van = s.van)
    (ht : t = (u.losingReport kind).announceDue) :
    (∃ notices, t.van.outbound = s.van.outbound ++ notices ∧ (∀ n ∈ notices, n.kind = 0x85) ∧
      s.van.pulsed notices.length t.van) ∧
    s.van.sameLink t.van ∧
    t.van.counters = { s.van.counters with reportsLost := satStep 65535 s.van.counters.reportsLost } ∧
    s.raised t [(.reportsLost, u8 kind.toNat ++ u16 t.van.counters.reportsLost)] := by
  have hvan : (u.losingReport kind).van = (s.losingReport kind).van := by
    unfold State.losingReport
    rw [hv]
    exact State.occur_van_congr _ _ (by simp [hv])
  have hlink := (u.losingReport kind).announceDue_van
  have hraised : s.raised t [(.reportsLost, u8 kind.toNat ++ u16 (satStep 65535 s.van.counters.reportsLost))] := by
    rw [ht]
    exact State.raised_announceDue (State.raised_occur (u := s.modVan fun v => { v with
      counters := { v.counters with reportsLost := satStep 65535 v.counters.reportsLost } }) _ _ rfl
      (congrArg Van.notices hvan))
  rw [← ht, hvan] at hlink
  obtain ⟨⟨ns, hout, hkind, hpulsed⟩, hhold, hrx, hreset, hmode, hcounters⟩ := hlink
  have hstill : s.van.pulsed 0 (s.losingReport kind).van := Van.pulsed_zero_of rfl rfl
  refine ⟨⟨ns, hout, hkind, ?_⟩, ⟨hrx, hhold, hreset, hmode⟩, hcounters, ?_⟩
  · simpa only [Nat.zero_add] using Van.pulsed_add rfl hstill hpulsed
  · rw [hcounters]
    exact hraised

/-- Settles O23: the counter and the foreign list of R65, then at most one report. -/
theorem frameIsCounted : Obligations.FrameIsCounted := by
  intro ch f counted s hrun hf hm hcounted known report
  let u := (s.frameTaken ch f).counting f counted
  have hreport : report = s.frameReport f := rfl
  clear_value report
  subst hreport
  have hutx : u.tx = s.tx := by
    rw [(State.counting_parts _ _ _).1, State.frameTaken_tx, hm]
    rfl
  have huvan : u.van = s.van := (s.frameTaken_parts ch f).2.2.2.1
  have huframe : s.frame [.capture] u := by
    have hall : s.frame [.capture, .tx] u :=
      State.frame_trans (s.frameTaken_frame ch f) (State.frame_modCapture _ _ _ (by simp))
    intro b hb
    by_cases hx : b = .tx
    · exact hx ▸ hutx
    · exact hall b (by simp_all)
  have hsent : s.frame [.van, .capture] (u.sendReport (s.frameReport f)) :=
    State.frame_trans (State.frame_mono huframe (by simp)) (State.frame_mono (u.sendReport_frame _) (by simp))
  refine ⟨_, exec_captureFrame_counted hrun hf hcounted, ?_, ?_, ?_⟩
  · simp only [State.announceDue_frame, State.sendReport_parts, State.counting_capture]
  · exact State.frame_mono (State.frame_announceDue hsent) (by simp)
  · cases hr : s.frameReport f with
    | none => exact State.changesOnly_of_van huvan (State.frame_mono huframe (by simp))
    | some r =>
      dsimp only
      split
      · rename_i hroom
        have hqueued : u.sendReport (some r) = u.queueMessage r := by
          change u.queueReport r.kind r.body = _
          rw [State.queueReport_eq, huvan, if_pos hroom, State.frameReport_tag hr]
        exact State.queueMessage_announced huvan (by rw [← hqueued])
      · rename_i hfull
        have hlost : u.sendReport (some r) = u.losingReport r.kind := by
          change u.queueReport r.kind r.body = _
          exact (State.queueReport_eq _ _ _).trans (if_neg (huvan ▸ hfull))
        exact State.reportLost_announced huvan (by rw [← hlost])

end Reported

end Sys2Proof.Machine

namespace Sys2Proof.Machine

section Opening

/-! ## Frames that open an entry (R70, R72, R74, R86) -/

variable {s t : State} {c : Capture} {ch : ChannelNo} {f : Frame} {m followup : Bool} {i : Nat} {p : Stop} {e x : Entry}
  {prior : Status}

/-- A frame for the stop opens an entry: UNREAD, MISSED or RECHECK, or a follow-up ALARM for a stop with a record to spare
(R70, R72). -/
def Stop.opensFor (p : Stop) (f : Frame) : Prop :=
  p.status = .unread ∨ p.status = .missed ∨ p.status = .recheck ∨
    ((p.status = .read ∨ p.status = .flagged) ∧ isFollowup p f = true ∧ p.recordCount < 2)

theorem State.stopFor_stop (h : s.stopFor f = some (i, p)) : s.route.stops[i]? = some p := by
  obtain ⟨j, _, hj⟩ := Option.bind_eq_some_iff.1 h
  obtain ⟨q, hq, he⟩ := Option.map_eq_some_iff.1 hj
  cases he
  exact hq

theorem Stop.opensFor_not_heard (h : p.opensFor f) : p.status ≠ .heard := by
  rcases h with h | h | h | ⟨h | h, _⟩ <;> simp [h]

/-- A frame that opens an entry. -/
theorem State.classify_opens (ha : s.route.state = .active) (hs : s.stopFor f = some (i, p)) (h : p.opensFor f) :
    s.classify f m = s.openOrEvict i p.status f m (p.status == .read || p.status == .flagged) := by
  rw [State.classify_stop ha hs]
  unfold State.stopFrame
  rcases h with h | h | h | ⟨h | h, hf, hr⟩
  · rw [h]
    rfl
  · rw [h]
    rfl
  · rw [h]
    rfl
  · simp [h, State.settledFrame, hf, hr]
  · simp [h, State.settledFrame, hf, hr]

/-- A frame that joins an entry (R73). -/
theorem State.classify_joins (ha : s.route.state = .active) (hs : s.stopFor f = some (i, p)) (h : p.status = .heard)
    (he : s.capture.gatheringFor i = some e) : s.classify f m = s.addCopy i p.digits f m := by
  rw [State.classify_stop ha hs]
  simp [State.stopFrame, h, State.heardFrame, he]

/-- Every frame is counted, opens an entry or joins one (R65). -/
theorem State.frame_cases (s : State) (f : Frame) : (∃ counted, s.countedFrame f = some counted) ∨
    (s.route.state = .active ∧ ∃ i p, s.stopFor f = some (i, p) ∧
      (p.opensFor f ∨ p.status = .heard ∧ ∃ e, s.capture.gatheringFor i = some e)) := by
  unfold State.countedFrame
  by_cases ha : s.route.state = .active
  · simp only [ha, ne_eq, not_true, if_false, true_and]
    cases hs : s.stopFor f with
    | none => exact .inl ⟨_, rfl⟩
    | some x =>
      obtain ⟨i, p⟩ := x
      simp only [Option.some.injEq, Prod.mk.injEq, and_assoc]
      cases hp : p.status with
      | skipped => exact .inl ⟨_, rfl⟩
      | unread | missed | recheck => exact .inr ⟨i, p, rfl, rfl, .inl (by simp [Stop.opensFor, hp])⟩
      | heard =>
        cases hg : s.capture.gatheringFor i with
        | none => exact .inl ⟨_, if_pos rfl⟩
        | some e => exact .inr ⟨i, p, rfl, rfl, .inr ⟨hp, e, hg⟩⟩
      | read | flagged =>
        cases hf : isFollowup p f with
        | false => exact .inl ⟨_, rfl⟩
        | true =>
          by_cases hr : 2 ≤ p.recordCount
          · exact .inl ⟨_, if_pos hr⟩
          · exact .inr ⟨i, p, rfl, rfl, .inl (by simp [Stop.opensFor, hp, hf, Nat.not_le.1 hr])⟩
  · exact .inl ⟨_, if_pos ha⟩

/-- The capture filter with the oldest GATHERING entry evicted: finalised, and counted (R86). -/
def Capture.evicted (c : Capture) (confirmCount : Nat) : Capture :=
  match c.gatheringByAge.head? with
  | none => c
  | some e =>
    { c.handToCheck (e.finalised confirmCount c.nextFinal) with
      nextFinal := c.nextFinal + 1, counters := { c.counters with evictions := c.counters.evictions + 1 } }

/-- The capture filter as a new entry finds it: a full heard table has evicted its oldest GATHERING entry (R86). -/
def Capture.roomMade (c : Capture) (confirmCount : Nat) : Capture :=
  if 192 ≤ c.heard.length then c.evicted confirmCount else c

/-- An eviction brings no stop into the heard table. -/
theorem Capture.stop_of_mem_roomMade {k : Nat} (h : x ∈ (c.roomMade k).heard) : ∃ y ∈ c.heard, y.stop = x.stop := by
  unfold Capture.roomMade Capture.evicted at h
  split at h
  · split at h
    · exact ⟨x, h, rfl⟩
    · exact Capture.stop_of_mem_handToCheck h
  · exact ⟨x, h, rfl⟩

/-- The capture filter exchanged, everything else as it is. -/
def State.withCapture (s : State) (c : Capture) : State := { s with capture := c }

theorem State.evict_eq (hn : (s.capture.heard.map (·.stop)).Nodup) (h : s.capture.gatheringByAge.head? = some e) :
    (s.finalise e.stop).countCapture (fun k => { k with evictions := k.evictions + 1 }) =
      s.withCapture (s.capture.evicted s.route.params.confirmCount) := by
  obtain ⟨hmem, hfinal⟩ := (s.capture.mem_gatheringByAge e).1 (List.mem_of_head? h)
  obtain ⟨_, hcounters, _⟩ := s.capture.handToCheck_kept (e.finalised s.route.params.confirmCount s.capture.nextFinal)
  rw [State.finalise_eq (Capture.gatheringFor_of_mem hn hmem hfinal), Capture.evicted, h, ← hcounters]
  rfl

/-- A frame that needs a new entry gets one where the table has room or an eviction makes it, and is lost otherwise (R86). -/
theorem State.openOrEvict_eq (hn : (s.capture.heard.map (·.stop)).Nodup) :
    s.openOrEvict i prior f m followup =
      let u := s.withCapture (s.capture.roomMade s.route.params.confirmCount)
      if u.capture.heard.length < 192 then u.openEntry i prior f m followup
      else u.countCapture fun k => { k with overflow := k.overflow + 1 } := by
  unfold State.openOrEvict Capture.roomMade
  by_cases hroom : s.capture.heard.length < 192
  · rw [if_pos hroom, if_neg (Nat.not_le.2 hroom)]
    exact (if_pos hroom).symm
  · rw [if_neg hroom, if_pos (Nat.not_lt.1 hroom)]
    cases hg : s.capture.gatheringByAge with
    | nil =>
      have hstays : s.capture.evicted s.route.params.confirmCount = s.capture := by simp [Capture.evicted, hg]
      rw [hstays]
      exact (if_neg hroom).symm
    | cons oldest rest =>
      have hevict := s.evict_eq hn (e := oldest) (by simp [hg])
      simp only [hevict]

/-- The entry that a frame opens is the one of its stop (R73, R74). -/
theorem State.gatheringFor_newEntry (hfree : ∀ x ∈ s.capture.heard, x.stop ≠ i) :
    ({ s.capture with
      heard := s.capture.heard ++ [s.newEntry i prior f m followup]
      nextCreation := s.capture.nextCreation + 1 } : Capture).gatheringFor i = some (s.newEntry i prior f m followup) := by
  have hnone : s.capture.heard.find? (fun x => x.stop == i && x.gathering) = none := by
    rw [List.find?_eq_none]
    intro x hx
    simp [hfree x hx]
  unfold Capture.gatheringFor
  rw [List.find?_append, hnone]
  simp [State.newEntry, Entry.gathering]

/-- The opening of an entry up to its test (R74). -/
def State.entryAdded (s : State) (i : Nat) (prior : Status) (f : Frame) (m followup : Bool) : State :=
  ((s.modCapture fun c => { c with
    heard := c.heard ++ [s.newEntry i prior f m followup], nextCreation := c.nextCreation + 1 }).setStatus i .heard
      (some prior)).removePolls (· == i)

theorem State.openEntry_eq (hfree : ∀ x ∈ s.capture.heard, x.stop ≠ i) :
    s.openEntry i prior f m followup = (s.entryAdded i prior f m followup).modCapture fun c =>
      c.tested (s.entryAdded i prior f m followup).route.params.confirmCount (s.newEntry i prior f m followup) := by
  refine State.testFinal_eq (s := s.entryAdded i prior f m followup) ?_
  have hcapture : (s.entryAdded i prior f m followup).capture = { s.capture with
      heard := s.capture.heard ++ [s.newEntry i prior f m followup]
      nextCreation := s.capture.nextCreation + 1 } := by simp [State.entryAdded]
  rw [hcapture, State.gatheringFor_newEntry hfree]

theorem State.entryAdded_route (h : s.route.stops[i]? = some p) : (s.entryAdded i prior f m followup).route = { s.route with
    stops := s.route.stops.set i { p with status := .heard, prior := some prior }
    segments := s.route.segments.modify p.segment fun g =>
      { g with counts := (g.counts.mod (· - 1) p.status).mod (· + 1) .heard } } := by
  simp only [State.entryAdded, State.removePolls_frame]
  exact State.setStatus_route (s.modCapture _) h _ _

theorem State.entryAdded_tx (s : State) : (s.entryAdded i prior f m followup).tx =
    (({ s with route := (s.entryAdded i prior f m followup).route } : State).removePolls (· == i)).tx := by
  refine State.removePolls_tx_congr ?_ (by simp) (by simp)
  simp only [State.entryAdded, State.removePolls_frame]

/-- An opened entry: the capture filter with the entry tested (R74, R79). -/
theorem State.openEntry_capture (h : s.route.stops[i]? = some p) (hfree : ∀ x ∈ s.capture.heard, x.stop ≠ i) :
    (s.openEntry i prior f m followup).capture = ({ s.capture with
      heard := s.capture.heard ++ [s.newEntry i prior f m followup]
      nextCreation := s.capture.nextCreation + 1 } : Capture).tested s.route.params.confirmCount
        (s.newEntry i prior f m followup) := by
  rw [State.openEntry_eq hfree, State.modCapture_capture, State.entryAdded_route h]
  simp [State.entryAdded]

theorem State.openEntry_route (h : s.route.stops[i]? = some p) : (s.openEntry i prior f m followup).route = { s.route with
    stops := s.route.stops.set i { p with status := .heard, prior := some prior }
    segments := s.route.segments.modify p.segment fun g =>
      { g with counts := (g.counts.mod (· - 1) p.status).mod (· + 1) .heard } } :=
  ((s.entryAdded i prior f m followup).testFinal_frame i).2.2.2.1.trans (State.entryAdded_route h)

theorem State.openEntry_tx (s : State) : (s.openEntry i prior f m followup).tx =
    (({ s with route := (s.openEntry i prior f m followup).route } : State).removePolls (· == i)).tx := by
  have hroute : (s.openEntry i prior f m followup).route = (s.entryAdded i prior f m followup).route :=
    ((s.entryAdded i prior f m followup).testFinal_frame i).2.2.2.1
  have htx : (s.openEntry i prior f m followup).tx = (s.entryAdded i prior f m followup).tx :=
    ((s.entryAdded i prior f m followup).testFinal_frame i).2.2.2.2.2.2.2.1
  rw [hroute, htx, State.entryAdded_tx]

/-- A stop just heard is not one that a refill scan wants. -/
theorem State.openEntry_unwanted (h : s.route.stops[i]? = some p) :
    ∀ q, (s.openEntry i prior f m followup).route.stops[i]? = some q → q.status.wanted = false := by
  intro q hq
  have hi : i < s.route.stops.length := (List.getElem?_eq_some_iff.1 h).1
  rw [State.openEntry_route h] at hq
  simp only [List.getElem?_set_self hi, Option.some.injEq] at hq
  rw [← hq]
  rfl

end Opening

end Sys2Proof.Machine

namespace Sys2Proof.Machine

section Replying

/-! ## A matching REPLY (R65, R135) -/

variable {s t u : State} {ch : ChannelNo} {f : Frame} {m followup : Bool} {i : Nat} {p : Stop} {prior : Status}

@[simp] theorem State.finalise_handedOn (s : State) (i : Nat) :
    (s.finalise i).capture.handedOn = s.capture.handedOn := by
  cases h : s.capture.gatheringFor i with
  | none => simp [State.finalise, h]
  | some e => rw [State.finalise_eq h]; exact (Capture.handToCheck_kept _ _).1

@[simp] theorem State.testFinal_handedOn (s : State) (i : Nat) :
    (s.testFinal i).capture.handedOn = s.capture.handedOn := by
  unfold State.testFinal
  split
  · rfl
  · split <;> simp

@[simp] theorem State.openEntry_handedOn (s : State) :
    (s.openEntry i prior f m followup).capture.handedOn = s.capture.handedOn := by
  simp [State.openEntry]

@[simp] theorem State.addCopy_handedOn (s : State) (d : Nat) :
    (s.addCopy i d f m).capture.handedOn = s.capture.handedOn := by
  simp [State.addCopy]

/-- Every update of the counters leaves the frames handed on as they are. -/
@[simp] theorem State.countCapture_handedOn (s : State) (k : CaptureCounters → CaptureCounters) :
    (s.countCapture k).capture.handedOn = s.capture.handedOn := rfl

/-- The transmitter stands IDLE, its queue apart, as it stood. -/
def Transmitter.restsAs (x y : Transmitter) : Prop :=
  y.state = .idle ∧ y.counters = x.counters ∧ y.lastToken = x.lastToken ∧ y.inhibit = x.inhibit

theorem State.restsAs_of_tx (h : s.tx.state = .idle) (ht : t.tx = s.tx) : s.tx.restsAs t.tx := by
  rw [ht]
  exact ⟨h, rfl, rfl, rfl⟩

theorem State.openEntry_restsAs (h : s.tx.state = .idle) : s.tx.restsAs (s.openEntry i prior f m followup).tx := by
  rw [State.openEntry_tx]
  obtain ⟨hcounters, htoken, hinhibit, _⟩ :=
    State.removePolls_tx_kept { s with route := (s.openEntry i prior f m followup).route } (· == i)
  exact ⟨State.removePolls_idle h, hcounters, htoken, hinhibit⟩

/-- What a frame that needs a new entry leaves of the frames handed on and of an IDLE transmitter (R72, R86). -/
theorem State.openOrEvict_rests (h : s.tx.state = .idle) :
    (s.openOrEvict i prior f m followup).capture.handedOn = s.capture.handedOn ∧
    s.tx.restsAs (s.openOrEvict i prior f m followup).tx := by
  unfold State.openOrEvict
  split
  · exact ⟨by simp, State.openEntry_restsAs h⟩
  · split
    · exact ⟨rfl, State.restsAs_of_tx h rfl⟩
    · rename_i oldest rest _
      let v := (s.finalise oldest.stop).countCapture fun k => { k with evictions := k.evictions + 1 }
      have hv : v.tx = s.tx := by simp [v]
      dsimp only
      split
      · refine ⟨by simp, ?_⟩
        rw [← hv]
        exact State.openEntry_restsAs (s := v) (hv ▸ h)
      · exact ⟨by simp, State.restsAs_of_tx h (by simp)⟩

/-- Whatever becomes of a frame, the frames handed on stay as they are from then on, and so does an IDLE transmitter (R65). -/
theorem State.classify_rests (h : s.tx.state = .idle) :
    (s.classify f m).capture.handedOn = s.capture.handedOn ∧ s.tx.restsAs (s.classify f m).tx := by
  rcases s.frame_cases f with ⟨counted, hc⟩ | ⟨ha, i, p, hs, hopens | ⟨hheard, e, he⟩⟩
  · rw [State.classify_counted hc]
    exact ⟨by simp [State.sendReport_parts, State.counting],
      State.restsAs_of_tx h (by simp [State.sendReport_parts, State.counting])⟩
  · rw [State.classify_opens ha hs hopens]
    exact State.openOrEvict_rests h
  · rw [State.classify_joins ha hs hheard he]
    exact ⟨by simp, State.restsAs_of_tx h (by simp)⟩

theorem State.classify_framed (s : State) (f : Frame) (m : Bool) :
    s.frame [.van, .capture, .route, .tx] (s.classify f m) := by
  intro b hb
  cases b <;> simp_all [State.agree]

/-- Settles O26: the match comes before the tests, and what follows them leaves the transmitter IDLE. -/
theorem replySatisfiesPoll : Obligations.ReplySatisfiesPoll := by
  intro ch f poll token cancelled window s hrun hf hlisten hkind hmeter htoken
  have hm : s.tx.matches f = true := by simp [Transmitter.matches, hkind, hlisten, hmeter, htoken]
  let u := s.frameTaken ch f
  have hexec : exec (.captureFrame ch) s = .next (u.classify f true).announceDue := by
    rw [exec_captureFrame hrun hf, hm]
  have hutx : u.tx = s.satisfyPoll.tx := by rw [State.frameTaken_tx, if_pos hm]
  obtain ⟨hcapture, hroute, _, hvan, _⟩ := s.frameTaken_parts ch f
  obtain ⟨hhanded, hidle, hcounters, htok, hinhibit⟩ :=
    State.classify_rests (s := u) (f := f) (m := true) (State.frameTaken_idle hm)
  rw [hutx, s.satisfyPoll_tx] at hcounters htok hinhibit
  have hframe : s.frame [.van, .capture, .route, .tx] (u.classify f true) :=
    State.frame_trans (State.frame_mono (s.frameTaken_frame ch f) (by simp)) (u.classify_framed f true)
  refine ⟨_, hexec, ?_, ?_, ?_, ?_, ?_, ?_, ?_⟩
  · simpa only [State.announceDue_frame] using hidle
  · simpa only [State.announceDue_frame] using hcounters
  · simpa only [State.announceDue_frame] using htok
  · simpa only [State.announceDue_frame] using hinhibit
  · simp only [State.announceDue_frame, hhanded, u, hcapture]
  · exact State.frame_mono (State.frame_announceDue hframe) (by simp)
  · intro counted hcounted
    obtain ⟨hread, _, _, hreport, _⟩ := s.frameTaken_reads ch f
    have hclass : u.classify f true = (u.counting f counted).sendReport (s.frameReport f) := by
      rw [State.classify_counted (hread.trans hcounted), hreport]
    rw [hclass]
    simp only [State.announceDue_frame, State.sendReport_parts, State.counting_capture, State.counting_parts, u, true_and]
    refine ⟨hutx, hroute, fun hforeign => ?_⟩
    rw [State.frameReport_none hforeign (by simp [hkind])]
    exact State.changesOnly_of_van hvan (State.frame_trans (State.frame_mono (s.frameTaken_frame ch f) (by simp))
      (State.frame_modCapture _ _ _ (by simp)))

end Replying

end Sys2Proof.Machine

namespace Sys2Proof.Machine

section Heard

/-! ## What the invariant of the readings in hand gives the heard table (R35, R73) -/

variable {s : State} {ch : ChannelNo} {f : Frame} {i : Nat} {p : Stop}

theorem State.inHandHolds.nodup (h : s.inHandHolds) (hrun : s.running = true) : (s.capture.heard.map (·.stop)).Nodup := by
  obtain ⟨hnodup, _⟩ := h.2 hrun
  rw [State.inHand, List.append_assoc] at hnodup
  exact (List.nodup_append.1 hnodup).1

/-- A stop that is not HEARD has no entry. -/
theorem State.inHandHolds.free (h : s.inHandHolds) (hrun : s.running = true) (hp : s.route.stops[i]? = some p)
    (hs : p.status ≠ .heard) : ∀ x ∈ s.capture.heard, x.stop ≠ i := by
  rintro x hx rfl
  obtain ⟨_, _, hiff⟩ := h.2 hrun
  have hin : x.stop ∈ s.inHand := by
    simp only [State.inHand, List.mem_append, List.mem_map]
    exact .inl (.inl ⟨x, hx, rfl⟩)
  obtain ⟨q, hq, hheard⟩ := (hiff x.stop).1 hin
  rw [hp] at hq
  exact hs (Option.some.inj hq ▸ hheard)

end Heard

section OpeningRow

variable {s u : State} {ch : ChannelNo} {f : Frame} {i : Nat} {p : Stop} {m followup : Bool} {prior : Status}

/-- The fields of the entry that a frame opens (R74). -/
theorem State.newEntry_eq (hroute : u.route = s.route) (hstamp : u.stamp = s.stamp)
    (hnext : u.capture.nextCreation = s.capture.nextCreation) (hch : f.channel = ch) :
    u.newEntry i prior f m followup =
      { stop := i, meterId := f.meterId, created := s.capture.nextCreation, prior := prior, best := f,
        eligible := if f.fromActive || m then 1 else 0, copies := 1, mask := 1#4 <<< ch.val, union := f.flags,
        alarm := f.kind == .alarm, conflict := false, polled := m, followup := followup, firstHeard := s.stamp,
        lastHeard := s.stamp, hold := ⟨0, 1000 * s.route.params.holdTime⟩, gather := ⟨0, 4000 * s.route.params.holdTime⟩,
        final := none } := by
  simp only [State.newEntry, hroute, hstamp, hnext, eligibleCopy, channelMark, hch, Timer.start, Bool.toNat, Bool.cond_eq_ite]

theorem Capture.roomMade_nextCreation (c : Capture) (k : Nat) : (c.roomMade k).nextCreation = c.nextCreation := by
  unfold Capture.roomMade Capture.evicted
  split
  · split
    · rfl
    · exact (Capture.handToCheck_kept _ _).2.2.1
  · rfl

/-- An opened entry leaves no poll of its stop, one on the air apart (R130). -/
theorem State.openEntry_polls (h : s.route.stops[i]? = some p) :
    (∀ q ∈ (s.openEntry i prior f m followup).tx.queue, q.stop ≠ i) ∧
    ((s.openEntry i prior f m followup).tx.state.onAir = false → (s.openEntry i prior f m followup).tx.names i = false) := by
  have hunwanted := State.openEntry_unwanted (prior := prior) (f := f) (m := m) (followup := followup) h
  rw [State.openEntry_tx]
  exact ⟨State.removePolls_queue hunwanted, State.removePolls_names hunwanted⟩

/-- The state in which a frame taken finds the heard table once room has been made (R86). -/
def State.roomFor (s : State) (ch : ChannelNo) (f : Frame) : State :=
  (s.frameTaken ch f).withCapture
    (({ s.capture with handedOn := s.capture.framesAfter ch } : Capture).roomMade s.route.params.confirmCount)

theorem State.roomFor_parts (s : State) (ch : ChannelNo) (f : Frame) :
    (s.roomFor ch f).route = s.route ∧ (s.roomFor ch f).tracker = s.tracker ∧ (s.roomFor ch f).van = s.van ∧
    (s.roomFor ch f).tx = (if s.tx.matches f then s.satisfyPoll else s).tx ∧ (s.roomFor ch f).stamp = s.stamp ∧
    (s.roomFor ch f).capture.nextCreation = s.capture.nextCreation := by
  obtain ⟨_, hroute, htracker, hvan, _⟩ := s.frameTaken_parts ch f
  obtain ⟨_, _, _, _, _, hstamp⟩ := s.frameTaken_reads ch f
  exact ⟨hroute, htracker, hvan, s.frameTaken_tx ch f, hstamp, Capture.roomMade_nextCreation _ _⟩

/-- A frame that opens an entry, by the room in the heard table (R86). -/
theorem State.classify_taken_opens (hn : (s.capture.heard.map (·.stop)).Nodup) (ha : s.route.state = .active)
    (hs : s.stopFor f = some (i, p)) (h : p.opensFor f) : (s.frameTaken ch f).classify f m =
      if (s.roomFor ch f).capture.heard.length < 192 then
        (s.roomFor ch f).openEntry i p.status f m (p.status == .read || p.status == .flagged)
      else (s.roomFor ch f).countCapture fun k => { k with overflow := k.overflow + 1 } := by
  obtain ⟨hcapture, hroute, _⟩ := s.frameTaken_parts ch f
  obtain ⟨_, _, _, _, hstop, _⟩ := s.frameTaken_reads ch f
  rw [State.classify_opens (hroute ▸ ha) (hstop.trans hs) h, State.openOrEvict_eq (by rw [hcapture]; exact hn), hcapture, hroute]
  rfl

/-- Settles O24: room is made, the entry is opened and tested, and the poll of its stop is gone. -/
theorem frameOpensEntry : Obligations.FrameOpensEntry := by
  intro ch f i p s hrun hinv hf ha hs hopens matched eligible hold entry taken oldest evicted full room satisfied
  let u := s.roomFor ch f
  obtain ⟨hroute, htracker, hvan, htx, hstamp, hnext⟩ := s.roomFor_parts ch f
  have hp := State.stopFor_stop hs
  have hup : u.route.stops[i]? = some p := by rw [← hp, ← hroute]
  have hfree : ∀ x ∈ u.capture.heard, x.stop ≠ i := by
    intro x hx
    obtain ⟨y, hy, hxy⟩ := Capture.stop_of_mem_roomMade hx
    rw [← hxy]
    exact hinv.free hrun hp (Stop.opensFor_not_heard hopens) y hy
  have hentry : u.newEntry i p.status f matched (p.status == .read || p.status == .flagged) = entry :=
    State.newEntry_eq hroute hstamp hnext (Capture.nextFrame_channel hf)
  have hclass := State.classify_taken_opens (ch := ch) (m := matched) (hinv.nodup hrun) ha hs hopens
  have hcounters := s.frameTaken_counters ch f
  have hframe : s.frame [.van, .capture, .route, .tx] ((s.frameTaken ch f).classify f matched) :=
    State.frame_trans (State.frame_mono (s.frameTaken_frame ch f) (by simp)) (State.classify_framed _ f matched)
  have hroom : u.capture = room := rfl
  have hsatisfied : u.tx = satisfied.tx := htx
  have hkept : satisfied.tracker = s.tracker := by
    simp only [satisfied]
    split <;> simp
  refine ⟨_, exec_captureFrame hrun hf, ?_⟩
  clear_value room satisfied
  by_cases hlt : room.heard.length < 192
  · rw [if_pos hlt]
    let v := u.openEntry i p.status f matched (p.status == .read || p.status == .flagged)
    have hv : (s.frameTaken ch f).classify f matched = v := hclass.trans (if_pos (hroom ▸ hlt))
    have hvtx : v.tx = (({ satisfied with route := v.route } : State).removePolls (· == i)).tx :=
      u.openEntry_tx.trans (State.removePolls_tx_congr rfl (htracker.trans hkept.symm) hsatisfied)
    obtain ⟨hsame, _, _, _⟩ := State.removePolls_tx_kept ({ satisfied with route := v.route } : State) (· == i)
    have hvroute : v.route = _ := State.openEntry_route hup
    have hvcapture : v.capture = _ := State.openEntry_capture hup hfree
    have hvvan : v.van = s.van := by simp [v, u, hvan]
    obtain ⟨hqueue, hnames⟩ : (∀ q ∈ v.tx.queue, q.stop ≠ i) ∧ (v.tx.state.onAir = false → v.tx.names i = false) :=
      State.openEntry_polls hup
    rw [hroute] at hvroute
    rw [hentry, hroute, hroom] at hvcapture
    rw [hv] at hframe ⊢
    simp only [State.announceDue_frame]
    refine ⟨?_, fun hmatch => ?_, ⟨hvcapture, ?_, hvtx, hqueue, hnames⟩, State.changesOnly_of_van hvvan hframe⟩
    · rw [hvtx, hsame, ← hcounters, State.frameTaken_tx, ← htx, hsatisfied]
    · rw [hvtx]
      refine State.removePolls_idle ?_
      rw [← State.frameTaken_idle (ch := ch) hmatch, State.frameTaken_tx, ← htx, hsatisfied]
    · rw [hvroute, modify_eq_set_of_getElem? hp]
  · rw [if_neg hlt]
    let v := u.countCapture fun k => { k with overflow := k.overflow + 1 }
    have hv : (s.frameTaken ch f).classify f matched = v := hclass.trans (if_neg (hroom ▸ hlt))
    rw [hv] at hframe ⊢
    simp only [State.announceDue_frame]
    refine ⟨?_, fun hmatch => ?_, ⟨?_, hsatisfied, hroute⟩, State.changesOnly_of_van hvan hframe⟩
    · rw [← hcounters, State.frameTaken_tx]
      exact congrArg Transmitter.counters htx
    · rw [← State.frameTaken_idle (ch := ch) hmatch, State.frameTaken_tx]
      exact congrArg Transmitter.state htx
    · rw [← hroom]
      rfl

end OpeningRow

end Sys2Proof.Machine

namespace Sys2Proof.Machine

section Joining

/-! ## Copies of an entry (R73, R75 to R78) -/

variable {s u : State} {ch : ChannelNo} {f : Frame} {i : Nat} {p : Stop} {m : Bool} {e : Entry}

/-- How far a copy's sequence number lies ahead of the best copy's, modulo 256 (R76). -/
abbrev Frame.ahead (new best : Frame) : Nat := (new.sequence.toNat + 256 - best.sequence.toNat) % 256

/-- The copy takes the place of the best one (R76). -/
abbrev Frame.replaces (new best : Frame) : Prop :=
  (1 ≤ new.ahead best ∧ new.ahead best ≤ 127) ∨ (new.ahead best = 0 ∧ new.reading = best.reading ∧
    (new.corrections < best.corrections ∨ new.corrections = best.corrections ∧
      (best.level < new.level ∨ best.level = new.level ∧ new.channel.val < best.channel.val)))

/-- The copy contradicts the best one: another reading of one transmission, or a register that runs back
without wrapping (R77). -/
abbrev Frame.contradicts (d : Nat) (new best : Frame) : Prop :=
  (new.ahead best = 0 ∧ ¬new.reading = best.reading) ∨
    (1 ≤ new.ahead best ∧ new.ahead best ≤ 127 ∧ new.reading.toNat < best.reading.toNat ∧
      ¬(9 * 10 ^ (d - 1) ≤ best.reading.toNat ∧ new.reading.toNat < 10 ^ (d - 1)))

theorem betterCopy_iff (new best : Frame) : betterCopy new best = true ↔
    new.corrections < best.corrections ∨ new.corrections = best.corrections ∧
      (best.level < new.level ∨ best.level = new.level ∧ new.channel.val < best.channel.val) := by
  unfold betterCopy
  by_cases hc : new.corrections = best.corrections
  · by_cases hl : new.level = best.level
    · simp [hc, hl]
    · simp [hc, hl, Ne.symm hl]
  · simp [hc]

/-- The best copy after a copy, and whether it sets CONFLICT (R76, R77). -/
theorem compareCopy_eq (d : Nat) (best new : Frame) : compareCopy d best new =
    (if new.replaces best then new else best, decide (new.contradicts d best)) := by
  have hahead : (new.sequence - best.sequence).toNat = new.ahead best := by
    rw [BitVec.toNat_sub]
    have := best.sequence.isLt
    simp only [Frame.ahead]
    omega
  unfold compareCopy
  simp only [hahead]
  by_cases hzero : new.ahead best = 0
  · by_cases hreading : new.reading = best.reading
    · have hbetter : new.replaces best ↔ betterCopy new best = true := by
        simp [Frame.replaces, hzero, hreading, betterCopy_iff]
      simp [hzero, hreading, hbetter]
    · simp [hzero, hreading]
  · by_cases hlate : new.ahead best ≤ 127
    · have hconflict : new.contradicts d best ↔ new.reading.toNat < best.reading.toNat ∧
          wrapPattern d best.reading.toNat new.reading.toNat = false := by
        simp [Frame.contradicts, hzero, hlate, Nat.one_le_iff_ne_zero, wrapPattern]
      have hnew : new.replaces best := .inl ⟨Nat.one_le_iff_ne_zero.2 hzero, hlate⟩
      simp [hzero, hlate, hconflict, hnew]
    · simp [hzero, hlate]

/-- The entry after one more copy (R75, R76, R78). -/
theorem Entry.withCopy_eq (e : Entry) (d holdTime : Nat) (t : Stamp) (f : Frame) (m : Bool) : e.withCopy d holdTime t f m =
    { e with
      best := if f.replaces e.best then f else e.best
      conflict := e.conflict || decide (f.contradicts d e.best)
      copies := satStep 65535 e.copies
      eligible := if f.fromActive = true ∨ m = true then satStep 255 e.eligible else e.eligible
      mask := e.mask ||| 1#4 <<< f.channel.val
      union := e.union.union f.flags
      alarm := e.alarm || f.kind == .alarm
      polled := e.polled || m
      lastHeard := t
      hold := ⟨0, 1000 * holdTime⟩ } := by
  unfold Entry.withCopy
  rw [compareCopy_eq]
  simp only [eligibleCopy, Bool.or_eq_true, channelMark, Timer.start]

/-- Where no stop is heard twice, a change of one stop's entry reaches that entry alone. -/
theorem Capture.map_heard_eq {c : Capture} (hn : (c.heard.map (·.stop)).Nodup) (he : e ∈ c.heard) (hf : e.final = none)
    (g : Entry → Entry) : (c.heard.map fun x => if x.stop = e.stop ∧ x.gathering then g x else x) =
      c.heard.map fun x => if x.stop = e.stop then g e else x := by
  refine List.map_congr_left fun x hx => ?_
  by_cases hs : x.stop = e.stop
  · obtain rfl := List.inj_on_of_nodup_map hn hx he hs
    simp [Entry.gathering, hf]
  · simp [hs]

/-- A copy joins the entry of its stop, which is tested (R78, R79). -/
theorem State.addCopy_eq (hn : (s.capture.heard.map (·.stop)).Nodup) (he : s.capture.gatheringFor i = some e) (d : Nat) :
    let joined := e.withCopy d s.route.params.holdTime s.stamp f m
    s.addCopy i d f m = s.modCapture fun c =>
      ({ c with heard := c.heard.map fun x => if x.stop = i then joined else x } : Capture).tested s.route.params.confirmCount
        joined := by
  intro joined
  obtain ⟨hmem, rfl, hf⟩ := Capture.gatheringFor_some he
  have hstop : joined.stop = e.stop := by simp only [joined, Entry.withCopy_eq]
  have hfinal : joined.final = none := by simp only [joined, Entry.withCopy_eq, hf]
  let c : Capture := { s.capture with heard := s.capture.heard.map fun x => if x.stop = e.stop then joined else x }
  have hstops : c.heard.map (·.stop) = s.capture.heard.map (·.stop) := by
    simp only [c, List.map_map]
    refine List.map_congr_left fun x _ => ?_
    by_cases hx : x.stop = e.stop <;> simp [hx, hstop]
  have hjoined : c.gatheringFor e.stop = some joined := by
    rw [← hstop]
    exact Capture.gatheringFor_of_mem (hstops ▸ hn) (List.mem_map.2 ⟨e, hmem, if_pos rfl⟩) hfinal
  have hadded : s.addCopy e.stop d f m = (s.withCapture c).testFinal e.stop := by
    change (s.withCapture { s.capture with heard := s.capture.heard.map fun x =>
      if x.stop = e.stop ∧ x.gathering then x.withCopy d s.route.params.holdTime s.stamp f m else x }).testFinal e.stop = _
    rw [Capture.map_heard_eq hn hmem hf fun x => x.withCopy d s.route.params.holdTime s.stamp f m]
  rw [hadded]
  exact State.testFinal_eq (s := s.withCapture c) hjoined

/-- Settles O25: the copy joins the one entry of its stop, which is then tested. -/
theorem copyJoinsEntry : Obligations.CopyJoinsEntry := by
  intro ch f i p e s hrun hinv hf ha hs hheard he matched ahead sameReading better newBest wraps conflicts joined
  obtain rfl := Capture.nextFrame_channel hf
  let u := s.frameTaken f.channel f
  obtain ⟨hcapture, hroute, _, hvan, _⟩ := s.frameTaken_parts f.channel f
  obtain ⟨_, _, _, _, hstop, hstamp⟩ := s.frameTaken_reads f.channel f
  have hue : u.capture.gatheringFor i = some e := by rw [← he, hcapture]; rfl
  have hjoined : e.withCopy p.digits s.route.params.holdTime s.stamp f matched = joined :=
    Entry.withCopy_eq ..
  have hclass : u.classify f matched = u.modCapture fun c =>
      ({ c with heard := c.heard.map fun x => if x.stop = i then joined else x } : Capture).tested
        s.route.params.confirmCount joined := by
    rw [State.classify_joins (hroute ▸ ha) (hstop.trans hs) hheard hue,
      State.addCopy_eq (by rw [hcapture]; exact hinv.nodup hrun) hue, hroute, hstamp, hjoined]
  refine ⟨_, exec_captureFrame hrun hf, ?_⟩
  rw [hclass]
  simp only [State.announceDue_frame, State.modCapture_capture, State.modCapture_tx]
  refine ⟨by rw [hcapture], s.frameTaken_counters f.channel f, fun hm => ?_, State.changesOnly_of_van hvan ?_⟩
  · rw [State.frameTaken_tx, show s.tx.matches f = false from hm]
    rfl
  · exact State.frame_trans (State.frame_mono (s.frameTaken_frame f.channel f) (by simp)) (State.frame_modCapture _ _ _ (by simp))

end Joining

end Sys2Proof.Machine

namespace Sys2Proof.Machine

section ReadingCheck

/-! ## Stages 3 and 4 of the reading check (R98 to R101) -/

variable (c : Check)

/-- The whole hours from the previous reading to the first hearing (R98). -/
abbrev Check.elapsed : Int := elapsedHours c.static.previousDay c.static.previousHour c.entry.firstHeard

/-- The clock was set at the first hearing, and time has passed since the previous reading (R98). -/
def Check.hasTime : Prop := c.entry.firstHeard.state ≠ .unset ∧ 0 < c.elapsed

/-- The hours that stage 4 works with, clamped to two bytes (R98). -/
abbrev Check.clampedHours : Nat := min 65535 c.elapsed.toNat

variable {c}

theorem Check.hoursKept_of_hasTime (h : c.hasTime) :
    hoursKept c.static.previousDay c.static.previousHour c.entry.firstHeard =
      (some c.clampedHours, decide (65535 < c.elapsed)) := by
  obtain ⟨hset, hpos⟩ := h
  unfold hoursKept
  rw [if_neg hset]
  by_cases hlong : 65535 < c.elapsed
  · have hclamp : c.clampedHours = 65535 := by unfold Check.clampedHours; omega
    simp [hpos, hlong, hclamp]
  · have hclamp : c.clampedHours = c.elapsed.toNat := by unfold Check.clampedHours; omega
    simp [hpos, hlong, hclamp]

theorem Check.hoursKept_of_not_hasTime (h : ¬c.hasTime) :
    hoursKept c.static.previousDay c.static.previousHour c.entry.firstHeard = (none, false) := by
  unfold hoursKept
  by_cases hset : c.entry.firstHeard.state = .unset
  · rw [if_pos hset]
  · have hneg : c.elapsed ≤ 0 := by simpa [Check.hasTime, hset] using h
    rw [if_neg hset]
    exact if_pos hneg

/-- Stages 3 and 4 after a usable time (R98 to R101). -/
theorem Check.timed_of_hasTime (h : c.hasTime) (m : Movement) (a : Nat) (e : Evidence) :
    c.timed m a e =
      ⟨m, a, some c.clampedHours, some (rateOf a c.clampedHours).1,
        some (ratioOf c.static.expected (rateOf a c.clampedHours).1).1,
        bandsOf c.profile (ratioOf c.static.expected (rateOf a c.clampedHours).1).1 a c.clampedHours,
        { e with
          longGap := decide (65535 < c.elapsed)
          rateSat := (rateOf a c.clampedHours).2
          noExpect := (ratioOf c.static.expected (rateOf a c.clampedHours).1).2 }⟩ := by
  have hkept := Check.hoursKept_of_hasTime h
  rw [Check.timed_some c m a e _ (congrArg Prod.fst hkept), hkept]

/-- Without a usable time stage 4 does not run (R98). -/
theorem Check.timed_of_not_hasTime (h : ¬c.hasTime) (m : Movement) (a : Nat) (e : Evidence) :
    c.timed m a e = ⟨m, a, none, none, none, .none, { e with noTime := true }⟩ :=
  Check.timed_none c m a e (congrArg Prod.fst (Check.hoursKept_of_not_hasTime h))

theorem Check.clampedHours_bounds (h : c.hasTime) : 1 ≤ c.clampedHours ∧ c.clampedHours ≤ 65535 := by
  obtain ⟨-, hpos⟩ := h
  unfold Check.clampedHours
  omega

/-- Half the divisor added before a division rounds the quotient (R99). -/
theorem add_half_div (n : Nat) {h : Nat} (hpos : 0 < h) :
    (n + h / 2) / h = if h ≤ 2 * (n % h) then n / h + 1 else n / h := by
  have hsum : (n + h / 2) / h = n / h + (n % h + h / 2) / h := by
    conv_lhs => rw [← Nat.div_add_mod n h, Nat.add_assoc, Nat.mul_add_div hpos]
  have hrem : n % h < h := Nat.mod_lt n hpos
  rw [hsum]
  by_cases hup : h ≤ 2 * (n % h)
  · have hone : (n % h + h / 2) / h = 1 := Nat.div_eq_of_lt_le (by omega) (by omega)
    rw [if_pos hup, hone]
  · have hzero : (n % h + h / 2) / h = 0 := Nat.div_eq_of_lt (by omega)
    rw [if_neg hup, hzero, Nat.add_zero]

theorem rateOf_fst (a h : Nat) : (rateOf a h).1 = min 4294967295 ((a * 2400 + h / 2) / h) := by
  unfold rateOf
  dsimp only
  split <;> omega

theorem rateOf_snd (a h : Nat) : (rateOf a h).2 = true ↔ 4294967295 < (a * 2400 + h / 2) / h := by
  unfold rateOf
  dsimp only
  split <;> simp [*]

theorem ratioOf_fst (expected q : Nat) : (ratioOf expected q).1 =
    if expected = 0 then (if q = 0 then 0 else 9999) else min 9999 (q * 100 / expected) := by
  unfold ratioOf
  repeat' split
  all_goals rfl

theorem ratioOf_fst_le (expected q : Nat) : (ratioOf expected q).1 ≤ 9999 := by
  rw [ratioOf_fst]
  repeat' split
  all_goals omega

theorem ratioOf_snd (expected q : Nat) : (ratioOf expected q).2 = true ↔ expected = 0 ∧ q ≠ 0 := by
  unfold ratioOf
  by_cases he : expected = 0 <;> by_cases hq : q = 0 <;> simp [he, hq]

/-! ## What the findings are, by the movement -/

/-- The movements after which stages 3 and 4 run (R98). -/
abbrev Movement.isTimed (m : Movement) : Prop := m = .forward ∨ m = .wrap ∨ m = .backstep

theorem Entry.evidence_unconfirmed (e : Entry) :
    e.evidence.unconfirmed = true ↔ ∃ x, e.final = some x ∧ x.confirmed = false := by
  simp [Entry.evidence, Option.any_eq_true]

/-- The evidence of the entry and of stages 1 and 2 (R95 to R97, R102). -/
def Check.movedEvidence (c : Check) (m : Movement) : Evidence :=
  { c.entry.evidence with
    range := decide (10 ^ c.static.digits ≤ c.entry.best.reading.toNat)
    noBase := decide (c.entry.best.reading.toNat < 10 ^ c.static.digits) && c.static.previous.isNone
    wrap := m == .wrap, backstep := m == .backstep, rollback := m == .backward }

theorem Check.movedEvidence_of_previous {old : Nat} (hr : c.entry.best.reading.toNat < 10 ^ c.static.digits)
    (hp : c.static.previous = some old) (m : Movement) : c.movedEvidence m =
      { c.entry.evidence with wrap := m == .wrap, backstep := m == .backstep, rollback := m == .backward } := by
  simp [Check.movedEvidence, hr, hp, Entry.evidence, Evidence.empty]

/-- Stages 1 and 2 give nothing of the evidence of stages 3 and 4. -/
theorem Check.movedEvidence_later (m : Movement) : (c.movedEvidence m).noTime = false ∧
    (c.movedEvidence m).longGap = false ∧ (c.movedEvidence m).rateSat = false ∧ (c.movedEvidence m).noExpect = false :=
  ⟨rfl, rfl, rfl, rfl⟩

@[simp] theorem Check.timed_movement (m : Movement) (a : Nat) (e : Evidence) : (c.timed m a e).movement = m := by
  by_cases h : c.hasTime
  · rw [Check.timed_of_hasTime h]
  · rw [Check.timed_of_not_hasTime h]

@[simp] theorem Check.timed_amount (m : Movement) (a : Nat) (e : Evidence) : (c.timed m a e).amount = a := by
  by_cases h : c.hasTime
  · rw [Check.timed_of_hasTime h]
  · rw [Check.timed_of_not_hasTime h]

/-- Stages 3 and 4 leave the evidence of stage 2 as it is. -/
theorem Check.timed_moved (m : Movement) (a : Nat) (e : Evidence) :
    (c.timed m a e).evidence.wrap = e.wrap ∧ (c.timed m a e).evidence.backstep = e.backstep := by
  by_cases h : c.hasTime
  · rw [Check.timed_of_hasTime h]
    exact ⟨rfl, rfl⟩
  · rw [Check.timed_of_not_hasTime h]
    exact ⟨rfl, rfl⟩

/-- The findings are those of stages 3 and 4 after FORWARD, WRAP and BACKSTEP, and otherwise what stages 1 and 2 found. -/
theorem Check.findings_shape (c : Check) : ∃ m a,
    (m.isTimed ∧ c.findings = c.timed m a (c.movedEvidence m)) ∨
    (¬m.isTimed ∧ c.findings = ⟨m, a, none, none, none, .none, c.movedEvidence m⟩) := by
  obtain ⟨hr, he⟩ | ⟨hr, hp, he⟩ | ⟨hr, old, hp, hrow⟩ := c.findings_cases
  · exact ⟨.none, 0, .inr (by simp [he, hr, Check.movedEvidence, Entry.evidence, Evidence.empty])⟩
  · exact ⟨.none, 0, .inr (by simp [he, hr, hp, Check.movedEvidence, Entry.evidence, Evidence.empty])⟩
  · have hm (m : Movement) := Check.movedEvidence_of_previous hr hp m
    obtain ⟨_, he⟩ | ⟨_, _, _, he⟩ | ⟨_, _, _, he⟩ | ⟨_, _, _, he⟩ := hrow
    · exact ⟨.forward, _, .inl ⟨by decide, by rw [hm]; exact he⟩⟩
    · exact ⟨.wrap, _, .inl ⟨by decide, by rw [hm]; exact he⟩⟩
    · exact ⟨.backstep, _, .inl ⟨by decide, by rw [hm]; exact he⟩⟩
    · exact ⟨.backward, _, .inr ⟨by decide, by rw [hm]; exact he⟩⟩

/-- Stages 1 and 2 and the entry give all the evidence but that of stages 3 and 4 (R102). -/
theorem Check.findings_evidence (c : Check) : ∃ longGap rateSat noExpect noTime, c.findings.evidence =
    { c.movedEvidence c.findings.movement with
      longGap := longGap, rateSat := rateSat, noExpect := noExpect, noTime := noTime } := by
  obtain ⟨m, a, ⟨-, he⟩ | ⟨-, he⟩⟩ := c.findings_shape
  · by_cases ht : c.hasTime
    · rw [he, Check.timed_of_hasTime ht]
      exact ⟨_, _, _, _, rfl⟩
    · rw [he, Check.timed_of_not_hasTime ht]
      exact ⟨_, _, _, _, rfl⟩
  · rw [he]
    exact ⟨_, _, _, _, rfl⟩

/-- The evidence of stages 3 and 4, none where they did not run (R98 to R100, R102). -/
theorem Check.findings_laterEvidence (c : Check) :
    (c.findings.evidence.noTime = true ↔ c.findings.movement.isTimed ∧ ¬c.hasTime) ∧
    (c.findings.evidence.longGap = true ↔ c.findings.movement.isTimed ∧ c.hasTime ∧ 65535 < c.elapsed) ∧
    (c.findings.evidence.rateSat = true ↔
      ∃ h, c.findings.hours = some h ∧ 4294967295 < (c.findings.amount * 2400 + h / 2) / h) ∧
    (c.findings.evidence.noExpect = true ↔ ∃ q, c.findings.rate = some q ∧ c.static.expected = 0 ∧ q ≠ 0) := by
  obtain ⟨m, a, ⟨hm, he⟩ | ⟨hm, he⟩⟩ := c.findings_shape
  · by_cases ht : c.hasTime
    · rw [he, Check.timed_of_hasTime ht]
      simp [hm, ht, Check.movedEvidence_later, rateOf_snd, ratioOf_snd]
    · rw [he, Check.timed_of_not_hasTime ht]
      simp [hm, ht, Check.movedEvidence_later]
  · rw [he]
    simp [hm, Check.movedEvidence_later]

/-! ## The category (R103) -/

/-- The condition of each category (R103). -/
def Finding.holds (f : Finding) : Category → Prop
  | .normal => True
  | .unconfirmed => f.evidence.unconfirmed = true
  | .backstep => f.movement = .backstep
  | .low => f.bands.low = true
  | .zero => f.bands.zero = true
  | .high => f.bands.high = true
  | .extreme => f.bands.extreme = true
  | .leak => f.evidence.leak = true
  | .noTime => f.evidence.noTime = true
  | .noBase => f.evidence.noBase = true
  | .reverse => f.evidence.reverse = true
  | .cover => f.evidence.cover = true
  | .magnet => f.evidence.magnet = true
  | .conflict => f.evidence.conflict = true
  | .rollback => f.movement = .backward
  | .range => f.evidence.range = true

variable (f : Finding)

/-- The list of conditions says what holds of every category but NORMAL. -/
theorem Finding.holds_iff_mem {k : Category} (hk : k ≠ .normal) : f.holds k ↔ (k, true) ∈ f.conditions := by
  cases k with
  | normal => exact absurd rfl hk
  | _ => simp [Finding.holds, Finding.conditions]

/-- The categories above NORMAL, from the highest number down (R103). -/
def Category.ranked : List Category :=
  [.range, .rollback, .conflict, .magnet, .cover, .reverse, .noBase, .noTime, .leak, .extreme, .high, .zero, .low,
   .backstep, .unconfirmed]

theorem Finding.conditions_categories : f.conditions.map (·.1) = Category.ranked := rfl

theorem Finding.conditions_ne_normal {x : Category × Bool} (hx : x ∈ f.conditions) : x.1 ≠ .normal := by
  have hmem : x.1 ∈ Category.ranked := f.conditions_categories ▸ List.mem_map_of_mem hx
  exact ne_of_mem_of_not_mem hmem (by decide)

/-- The list of conditions runs down the category numbers. -/
theorem Finding.conditions_descend : f.conditions.Pairwise fun x y => y.1.code < x.1.code := by
  have hranked : Category.ranked.Pairwise fun x y => y.code < x.code := by decide
  exact List.pairwise_map.1 (f.conditions_categories.symm ▸ hranked)

/-- The outcome category is the highest-numbered one whose condition holds (R103). -/
theorem Finding.category_highest : f.holds f.category ∧ ∀ k, f.holds k → k.code ≤ f.category.code := by
  cases hfound : f.conditions.find? (·.2) with
  | none =>
    have hcat : f.category = .normal := by rw [Finding.category, hfound]; rfl
    rw [hcat]
    refine ⟨trivial, fun k hk => ?_⟩
    by_cases hn : k = .normal
    · rw [hn]
    · exact absurd rfl (List.find?_eq_none.1 hfound _ ((f.holds_iff_mem hn).1 hk))
  | some x =>
    have hcat : f.category = x.1 := by rw [Finding.category, hfound]; rfl
    obtain ⟨hx, above, below, hsplit, habove⟩ := List.find?_eq_some_iff_append.1 hfound
    have hmem : x ∈ f.conditions := List.mem_of_find?_eq_some hfound
    rw [hcat]
    refine ⟨(f.holds_iff_mem (f.conditions_ne_normal hmem)).2 (hx ▸ hmem), fun k hk => ?_⟩
    by_cases hn : k = .normal
    · rw [hn]
      exact Fin.zero_le _
    have hk' := (f.holds_iff_mem hn).1 hk
    have hdesc := f.conditions_descend
    rw [hsplit] at hk' hdesc
    rcases List.mem_append.1 hk' with h | h
    · exact absurd (habove _ h) Bool.false_ne_true
    · rcases List.mem_cons.1 h with rfl | h
      · exact le_rfl
      · exact (List.rel_of_pairwise_cons (List.pairwise_append.1 hdesc).2.1 h).le

/-! ## The statements -/

/-- Settles O15: each way through stages 1 and 2 falls under the row of R97 that the statement gives for it. -/
theorem checkMovement : Obligations.CheckMovement := by
  intro c f d new later
  obtain ⟨hr, he⟩ | ⟨hr, hp, he⟩ | ⟨hr, old, hp, hrow⟩ := c.findings_cases
  · rw [if_pos hr]
    simp [f, later, he, Finding.category, Finding.conditions]
  · rw [if_neg (Nat.not_le.2 hr), hp]
    simp [f, later, he]
  · rw [if_neg (Nat.not_le.2 hr), hp]
    dsimp only
    obtain ⟨h1, he⟩ | ⟨h1, h2, h3, he⟩ | ⟨h1, h2, h3, he⟩ | ⟨h1, h2, h3, he⟩ := hrow
    · rw [if_pos h1]
      simp [f, new, he]
    · rw [if_neg (Nat.not_le.2 h1), if_pos ⟨h2, h3⟩]
      simp [f, new, d, he, Check.timed_moved]
    · rw [if_neg (Nat.not_le.2 h1), if_neg h2, if_pos h3]
      simp [f, he, Check.timed_moved]
    · rw [if_neg (Nat.not_le.2 h1), if_neg h2, if_neg (Nat.not_le.2 h3)]
      simp [f, later, new, he]

/-- Settles O16: stages 3 and 4 work on the clamped hours, or not at all without a usable time. -/
theorem checkTimeAndRate : Obligations.CheckTimeAndRate := by
  intro c f first hours timed hmoved
  obtain ⟨m, a, ⟨-, he⟩ | ⟨hm, he⟩⟩ := c.findings_shape
  · by_cases ht : c.hasTime
    · have htimed : timed := ht
      have hround := add_half_div (a * 2400) (Check.clampedHours_bounds ht).1
      rw [Check.timed_of_hasTime ht] at he
      simp only [f, he, if_pos htimed, ← hround, ← rateOf_fst, ← ratioOf_fst]
      refine ⟨rfl, by simp [htimed, Check.movedEvidence_later], ?_, trivial, rateOf_snd _ _, trivial, ratioOf_snd _ _, ?_⟩
      · rw [decide_eq_true_iff]
        exact (and_iff_right htimed).symm
      · simp [bandsOf, and_assoc]
    · have htimed : ¬timed := ht
      rw [Check.timed_of_not_hasTime ht] at he
      simp [f, he, htimed, Check.movedEvidence_later]
  · exact absurd (show m.isTimed by simpa only [f, he] using hmoved) hm

/-- Settles O17: the evidence of the entry and of each stage, and the category by the list of R103. -/
theorem checkEvidenceAndCategory : Obligations.CheckEvidenceAndCategory := by
  intro c f e inRange first hours stage3 timed holds
  obtain ⟨longGap, rateSat, noExpect, noTime, he⟩ := c.findings_evidence
  obtain ⟨hnoTime, hlongGap, hrateSat, hnoExpect⟩ := c.findings_laterEvidence
  refine ⟨?_, ?_, ?_, ?_, ?_, ?_, ?_, ?_, ?_, ?_, ?_, ?_, ?_, ?_, ?_, ?_, hnoTime, hlongGap, hrateSat, hnoExpect,
    c.findings.category_highest⟩
  all_goals simp only [f, he]
  case refine_10 => exact c.entry.evidence_unconfirmed
  case refine_1 | refine_2 | refine_3 | refine_4 | refine_5 | refine_6 | refine_7 | refine_8 | refine_9 => rfl
  all_goals simp [e, inRange, Check.movedEvidence, Entry.evidence]

/-- The amount of a movement fits the register (R97). -/
theorem Check.findings_amount_lt (h : ∀ old, c.static.previous = some old → old < 10 ^ c.static.digits) :
    c.findings.amount < 10 ^ c.static.digits := by
  have hpos : 0 < 10 ^ c.static.digits := Nat.pow_pos (by decide)
  obtain ⟨_, he⟩ | ⟨_, _, he⟩ | ⟨hr, old, hp, hrow⟩ := c.findings_cases
  · rwa [he]
  · rwa [he]
  · have hold := h old hp
    obtain ⟨_, he⟩ | ⟨hlt, _, _, he⟩ | ⟨_, _, _, he⟩ | ⟨_, _, _, he⟩ := hrow <;> rw [he]
    · rw [Check.timed_amount]; omega
    · rw [Check.timed_amount]; omega
    · rwa [Check.timed_amount]
    · dsimp only; omega

/-- Settles O18: the amount by the register, the hours and the later quantities by the clamps of their stages. -/
theorem checkBounds : Obligations.CheckBounds := by
  intro c hmin hmax hold f
  have hamount : f.amount < 10 ^ c.static.digits := Check.findings_amount_lt hold
  have hnine : 10 ^ c.static.digits ≤ 10 ^ 9 := Nat.pow_le_pow_right (by decide) hmax
  refine ⟨hamount, ?_⟩
  obtain ⟨m, a, ⟨-, he⟩ | ⟨-, he⟩⟩ := c.findings_shape
  · by_cases ht : c.hasTime
    · obtain ⟨hlow, hhigh⟩ := Check.clampedHours_bounds ht
      rw [Check.timed_of_hasTime ht] at he
      simp only [f, he, Option.some.injEq, forall_eq'] at hamount ⊢
      refine ⟨⟨hlow, hhigh, by omega⟩, ?_, ratioOf_fst_le _ _⟩
      rw [rateOf_fst]
      exact min_le_left _ _
    · rw [Check.timed_of_not_hasTime ht] at he
      simp [f, he]
  · simp [f, he]

end ReadingCheck

end Sys2Proof.Machine

namespace Sys2Proof.Machine

section Answering

/-! ## The queue of waiting commands, operation by operation -/

variable (s : State)

theorem State.answer_pending (link : Link) (h : Held) : (s.answer link h).1.pending = s.pending := by
  obtain ⟨kind, tag, _ | c⟩ := h
  · rfl
  · cases link with
    | van => exact (act_frame s .van c).1
    | dock =>
      simp only [State.answer]
      split
      · exact (act_frame s .dock c).1
      · rfl

@[simp] theorem State.takeHead_pending : s.takeHead.pending = s.pending := by
  obtain h | ⟨x, rest, -, h⟩ := s.takeHead_cases
  · rw [h]
  · rw [h, (State.queueMessage_frame _ _).1, State.noteReset]
    split <;> exact State.answer_pending _ .van x

@[simp] theorem State.takeHeld_pending : s.takeHeld.pending = s.pending := by
  obtain h | ⟨x, rest, -, h⟩ := s.takeHeld_cases
  · rw [h]
  · rw [h]
    exact State.answer_pending _ .dock x

@[simp] theorem State.vanHold_pending (h : Held) : (s.vanHold h).pending = s.pending := by
  unfold State.vanHold
  split
  · simp
  · rfl

@[simp] theorem State.dockHold_pending (h : Held) : (s.dockHold h).pending = s.pending := by
  unfold State.dockHold
  repeat' split
  all_goals simp

theorem State.vanReceived_pending (x : Received) : (s.vanReceived x).pending = s.pending := by
  cases x with
  | message m =>
    simp only [State.vanReceived, State.vanMessage]
    split
    · simp
    · rfl
  | badLength | badCrc => rfl

@[simp] theorem State.vanBytes_pending (bytes : List Byte) : (s.vanBytes bytes).pending = s.pending :=
  foldl_keeps State.pending _ (fun s x => by simp [State.vanReceived_pending]) _ _

theorem State.dockReceived_pending (x : Received) : (s.dockReceived x).pending = s.pending := by
  unfold State.dockReceived State.dockMessage
  repeat' split
  all_goals simp

@[simp] theorem State.dockBytes_pending (bytes : List Byte) : (s.dockBytes bytes).pending = s.pending :=
  foldl_keeps State.pending _ (fun s x => by simp [State.dockReceived_pending]) _ _

@[simp] theorem State.abandonMessage_pending : s.abandonMessage.pending = s.pending := by
  unfold State.abandonMessage
  split <;> simp

@[simp] theorem State.thresholdReached_pending : s.thresholdReached.pending = s.pending := by
  unfold State.thresholdReached
  split <;> simp

@[simp] theorem State.vanIncomplete_pending : s.vanIncomplete.pending = s.pending := rfl

@[simp] theorem State.sendEnded_pending (role : DockRole) : (s.sendEnded role).pending = s.pending := by
  unfold State.sendEnded
  split <;> simp

@[simp] theorem State.resendBlock_pending (b : Block) : (s.resendBlock b).pending = s.pending := by
  simp [State.resendBlock]

theorem State.takeSymbol_pending (ch : ChannelNo) (x : Nibble) : (State.takeSymbol ch s x).pending = s.pending := by
  unfold State.takeSymbol
  dsimp only
  repeat' split
  all_goals simp

theorem State.startStep_pending (k : StartStep) : (s.startStep k).pending = s.pending := by
  cases k with
  | marker =>
    simp only [State.startStep, State.startMarker, State.noteStep, State.modSupply_pending]
    split <;> rfl
  | load =>
    simp only [State.startStep, State.startLoad, State.noteStep, State.modSupply_pending]
    split <;> simp
  | index =>
    simp only [State.startStep, State.startIndex, State.noteStep, State.modSupply_pending]
    split <;> simp
  | stops =>
    exact foldl_keeps State.pending State.returnStop (fun s i => by simp) _ _
  | records | dwell => rfl
  | hello =>
    simp only [State.startStep, State.startHello, State.beginDock]
    split <;> simp

/-! ## What a row answers (R106, R173, R176, R194) -/

/-- A row answers a next state with the queue as it was; but for the pins and the supply monitor it is lost while the
part does not work. -/
def State.answers (s : State) (i : Instr) : Prop :=
  (∃ t, exec i s = .next t ∧ t.pending = s.pending) ∧
    (pinOrSupply i = false → s.running = false → exec i s = .next s)

variable {s} {i : Instr}

/-- A row of a working part alone. -/
theorem State.answers_of_whenRunning {act : State → State} (hrow : exec i s = whenRunning s act)
    (hact : (act s).pending = s.pending) : s.answers i := by
  rw [whenRunning_next] at hrow
  refine ⟨⟨_, hrow, ?_⟩, fun _ hoff => by rw [hrow, hoff]; rfl⟩
  split
  · simp [hact]
  · rfl

/-- A row that moves a pin, and lets the part act while it works. -/
theorem State.answers_of_pin {v : State} {act : State → State} (hi : pinOrSupply i = true)
    (hrow : exec i s = whenRunning v act) (hpin : v.pending = s.pending) (hact : (act v).pending = v.pending) :
    s.answers i := by
  rw [whenRunning_next] at hrow
  refine ⟨⟨_, hrow, ?_⟩, fun hno => absurd (hi.symm.trans hno) (by decide)⟩
  split
  · simp [hact, hpin]
  · exact hpin

theorem State.answers_of_supply (hi : pinOrSupply i = true) (h : ∃ t, exec i s = .next t ∧ t.pending = s.pending) :
    s.answers i := ⟨h, fun hno => absurd (hi.symm.trans hno) (by decide)⟩

theorem commandRow_answers {link : Link} {tag : Byte} {c : Command} (hi : rowCommand i = some (link, tag, c)) :
    s.answers i := by
  refine State.answers_of_whenRunning (exec_rowCommand hi s) ?_
  cases link with
  | van => exact s.vanHold_pending _
  | dock => exact s.dockHold_pending _

theorem execOutboundSent_answers : s.answers .outboundSent := by
  change (∃ t, execOutboundSent s = .next t ∧ t.pending = s.pending) ∧ (_ → _ → execOutboundSent s = .next s)
  constructor
  · unfold execOutboundSent
    repeat' split
    case h_5.isFalse.isFalse => exact ⟨_, rfl, by simp [State.dropHead]⟩
    all_goals exact ⟨_, rfl, rfl⟩
  · intro _ hoff
    unfold execOutboundSent
    split
    case h_5 hm => simp [State.running, hm] at hoff
    all_goals rfl

theorem execStartUp_answers (k : StartStep) : s.answers (.startUp k) := by
  refine State.answers_of_supply rfl ?_
  change ∃ t, execStartUp s k = .next t ∧ _
  unfold execStartUp
  split
  · refine ⟨_, rfl, ?_⟩
    rw [(State.announceDue_frame _).1]
    exact foldl_keeps State.pending _ State.startStep_pending _ _
  all_goals exact ⟨_, rfl, rfl⟩

theorem exec_answers (s : State) (i : Instr) : s.answers i := by
  cases i with
  | loadBegin | loadStops | loadSegment | loadEnd | loadAbort | setProfile | setRouteParams | setDisposition
  | setChannel | readForeign | retireRoute | clearRoute | readStop | openSegment | closeSegment | skipStop | unskipStop
  | readRevisit | readSegment | readRecords | pollStop | pollCancel | txInhibit | txEnable | dockReset | setDock | setClock
  | clockSource | readStatus | readCounters | clearCounters | ackNotice | setNoticeMask | setAttnMode | resetPart =>
    exact commandRow_answers rfl
  | syncDetection ch symbols =>
    refine State.answers_of_whenRunning (by dsimp only [exec]; rfl) ?_
    exact foldl_keeps State.pending _ (fun s x => s.takeSymbol_pending ch x) _ _
  | holdTimerExpiry | gatherLimitExpiry | abilityPage | depotPage | blockAck | blockNak | vanMessageArrival
  | vanMessageDiscard | dockMessageAbandoned =>
    refine State.answers_of_whenRunning (by dsimp only [exec]; rfl) ?_
    simp
  | byteWithoutStopBit => exact State.answers_of_whenRunning (act := State.vanIncomplete) rfl (by simp)
  | checkStart | checkCompletion | indexBuildComplete | dwellTimerExpiry | pollTake | guardComplete | clearWaitExpiry
  | burstEnd | listenWindowExpiry | dockSignalLoss | aligned | dockErrorWindowEnd | pageTimeout | resendDelayExpiry
  | ackTimerExpiry | dockMessageArrival | secondStep | vanByteGapTimeout | attnPulseEnd | attnLowGapEnd =>
    refine State.answers_of_whenRunning (by dsimp only [exec]; rfl) ?_
    repeat' split
    all_goals simp
  | headerComplete | blockComplete | streamStopped | muteHoldExpiry | captureFrame | symbolError | dockSendDone
  | ppsPulse | pulseWatchExpiry =>
    refine State.answers_of_whenRunning (by dsimp only [exec]; rfl) ?_
    dsimp only
    repeat' split
    all_goals simp
  | carrierLoss ch =>
    refine State.answers_of_pin (v := s.setCarrier ch false) rfl rfl (by simp) ?_
    split <;> simp
  | carrierPresent ch => exact State.answers_of_pin (v := s.setCarrier ch true) rfl rfl (by simp) (by simp)
  | dockSignalPresent => exact State.answers_of_pin (v := s.setSignal true) rfl rfl rfl (by simp)
  | dockSignalAbsent => exact State.answers_of_pin (v := s.setSignal false) rfl rfl rfl (by simp)
  | outboundSent => exact execOutboundSent_answers
  | startUp k => exact execStartUp_answers k
  | supplyDip | powerLost | vddGood | vddGoodLevelCrossing | vbakLow | resetNAssert | resetNRelease =>
    refine State.answers_of_supply rfl ?_
    simp only [exec, execSupplyDip, execPowerLost, execVddGood, execVddGoodLevelCrossing, execVbakLow, execResetNAssert,
      execResetNRelease]
    repeat' split
    all_goals exact ⟨_, rfl, rfl⟩

/-- Settles O2: every row answers, the command rows by the taking of their command, the others by their own operations. -/
theorem everyCommandCompletes : Obligations.EveryCommandCompletes := by
  intro c s
  exact exec_answers s c

end Answering

end Sys2Proof.Machine
